-- ==== Sys2Proof/Word.lean ====
section
/-!
DEFINITION. The plain words of the model: bytes of the message port, 7-bit values of the highways, and the
numbers of references, shelves and slots (00_scope.md section 4.1).
-/

namespace Sys2Proof

/-- A byte of the message port, or the 8 bits of one highway slot (R42, R155). -/
abbrev Byte := BitVec 8

/-- The value of a highway word, 0 to 127 (R42). -/
abbrev WordValue := BitVec 7

/-- A reference number, 0 to 39. -/
abbrev RefNo := Fin 40

/-- A shelf number, 0 to 31. -/
abbrev ShelfNo := Fin 32

/-- A highway slot number, 0 to 47. -/
abbrev SlotNo := Fin 48

/-- A quality code, 0 to 15 (00_scope.md section 4.2). -/
abbrev Code := Fin 16

end Sys2Proof
end

