-- ==== Sys2Proof/Syntax.lean ====
section
/-!
DEFINITION. The commands of the part: one constructor for each row of spec/opcode_table.json, in the table's order.

A host request carries no operand here: its values stand in the oldest frame of the request buffer, from which the
Message Port takes it (R160; log 1). An event of one pin, shelf or slot carries its number.
-/

namespace Sys2Proof

/-- The 50 operations and events of the table. -/
inductive Instr where
  /-- A type 1 request is taken (R9 to R11). -/
  | configureReference
  /-- A type 2 request is taken (R12). -/
  | readReference
  /-- A type 3 request is taken (R19). -/
  | clearRestore
  /-- A type 4 request is taken (R34). -/
  | setOscillatorTrim
  /-- A type 5 request is taken (R61). -/
  | loadCodePlan
  /-- A type 6 request is taken (R62). -/
  | readCodePlan
  /-- A type 7 request is taken (R70). -/
  | setGradeOverride
  /-- A type 8 request is taken (R74 to R76). -/
  | configureShelf
  /-- A type 9 request is taken (R77). -/
  | readShelf
  /-- A type 10 request is taken (R115 to R117). -/
  | setSelectionLimits
  /-- A type 11 request is taken (R119, R120). -/
  | switch
  /-- A type 12 request is taken (R125 to R127). -/
  | lockout
  /-- A type 13 request is taken (R129). -/
  | hold
  /-- A type 14 request is taken (R57). -/
  | setHighway
  /-- A type 15 request is taken (R58). -/
  | readHighway
  /-- A type 16 request is taken (R59). -/
  | injectBlock
  /-- A type 17 request is taken (R150). -/
  | setReporting
  /-- A type 18 request is taken (R151). -/
  | collect
  /-- A type 19 request is taken (R152). -/
  | endService
  /-- A type 20 request is taken (R163). -/
  | setMode
  /-- A type 21 request is taken (R164). -/
  | readStatus
  /-- A type 22 request is taken (R165). -/
  | reset
  /-- A frame of a type outside the catalogue is taken (R162, R167). -/
  | unknownRequestType
  /-- The last stop bit of the reply is sent (R160, R165). -/
  | replyEnd
  /-- The reset pin is released (R166). -/
  | resetPin
  /-- A byte completes, its stop bit sampled high or low (R155, R156). -/
  | byteReceived (value : Byte) (stopHigh : Bool)
  /-- The byte watch reaches its limit (R157). -/
  | byteWatchExpiry
  /-- A tick event (R22). -/
  | tickEvent
  /-- A second event (R22, R23). -/
  | secondEvent
  /-- Pin r is sampled high at this measurement tick: a rising edge where its last sample was low (R27; log 6). -/
  | edge (r : Nat)
  /-- The edge watch of channel r reaches its limit (R28). -/
  | signalLost (r : Nat)
  /-- The fail timer of ref r expires (R15, R17). -/
  | failTimerExpiry (r : Nat)
  /-- The restore timer of ref r expires (R16, R18). -/
  | restoreTimerExpiry (r : Nat)
  /-- The expected position of a frame pulse is sampled, with or without a pulse on it (R45). -/
  | qhFrameStart (pulse : Bool)
  /-- The frame watch runs out (R46). -/
  | frameWatchRunOut
  /-- A pulse is sampled away from the expected position (R49, R50). -/
  | qhSync
  /-- A pulse is sampled while the highway is LOST (R48). -/
  | qhRecovered
  /-- The eighth bit of a slot's word is sampled; the 8 bits as R168 places mark and value (R44, R52). -/
  | wordReceived (slot : Nat) (bits : Byte)
  /-- The message age expiry of ref r is reached (R66). -/
  | messageAgeExpiry (r : Nat)
  /-- The card silence expiry of shelf h is reached (R81). -/
  | cardSilenceExpiry (h : Nat)
  /-- The acquire expiry of shelf h is reached (R85). -/
  | acquireExpiry (h : Nat)
  /-- The holdover limit of shelf h is reached (R90). -/
  | holdoverAging (h : Nat)
  /-- The refusal mark of the entry of shelf h that names ref r runs out (R91). -/
  | refusalMarkRunOut (h : Nat) (r : Nat)
  /-- An evaluation pass starts (R109). -/
  | passStart
  /-- The next shelf of the visit list is visited (R110). -/
  | passVisit
  /-- The pass ends (R113). -/
  | passEnd
  /-- An outgoing frame starts (R134, R135). -/
  | dhFrameStart
  /-- A block start in a shelf's slot, 0 to 31 (R137). -/
  | commandBlockStart (slot : Nat)
  /-- A block start in a quality slot, 32 to 47 (R139, R140). -/
  | qualityBlockStart (slot : Nat)
  /-- The reset pin is asserted (R166). -/
  | resetPinAsserted
deriving DecidableEq, Repr

end Sys2Proof
end

