-- ==== Sys2Proof/Decode.lean ====
section
/-!
DEFINITION. The commands that a word spells by the table's bits. No row of spec/opcode_table.json gives bits
("n_rows_with_fixed": 0 and "n_rows_with_fields": 0 in spec/98_reader.md), so no word spells a command.
The bytes of a request frame are decoded in Machine/Operands.lean and Machine/Port.lean.
-/

namespace Sys2Proof

/-- No row of the table gives bits: no word spells a command. -/
def decodeTableWord (_nbits _w : Nat) : Option Instr := none

end Sys2Proof
end

