-- ==== Sys2Proof/Config.lean ====
section
/-!
DEFINITION. The numbers the spec fixes for the part, and the one value it leaves open.
-/

namespace Sys2Proof.Config

/-- The top value of office time, at which it stays (R23). -/
def topTime : Nat := 4294967295

/-- Measurement ticks from one tick event to the next (R22). -/
def ticksPerTickEvent : Nat := 2000000

/-- The edge watch at which a signal is lost (R28). -/
def edgeWatchLimit : Nat := 10000

/-- The frame watch at which a frame start is counted as missed (R46). -/
def frameWatchLimit : Nat := 3750

/-- The byte watch at which a frame in assembly is abandoned (R157). -/
def byteWatchLimit : Nat := 400000

/-- The time of one byte of the serial line, 10 bit times at 230,400 bit/s, in eighteenths of a measurement tick: a
byte lasts 15,625/18 ticks (R22, R155). -/
def byteTime : Nat := 15625

/-- Bit times of one byte of the serial line: a start bit, 8 data bits and a stop bit (R155). -/
def bitsPerByte : Nat := 10

/-- One measurement tick in the unit of byteTime. -/
def byteTimePerTick : Nat := 18

/-- Measurement ticks of one outgoing frame (R134). -/
def ticksPerFrame : Nat := 2500

/-- Bits of one highway frame (R42, R134). -/
def bitsPerFrame : Nat := 384

/-- The bound of raw, adjusted and filtered offsets, in offset units (R32, R33). -/
def offsetLimit : Int := 400000

/-- The bound of the oscillator trim (R33). -/
def trimLimit : Int := 200000

/-- The greatest number of shelves on a chain that does not return to itself: all of them. -/
def chainFuel : Nat := 32

/-- DESIGN CHOICE, safe (log 15). The remaining time that READ REFERENCE and READ SHELF report where the expiry held
is not later than the time read. That is so for a timer that has run out and whose expiry event is not yet taken, and
for a timer counted in seconds that was started while office time stood at its top value, whose expiry is then the
present time and which has not run out (R24). R12 and R77 give the remaining time a range that starts at 1, R18 counts
the steps of office time still to come, and neither states a value there. A function of the expiry and of the time
read, with no body. -/
opaque freeRemaining : Nat → Nat → Nat

end Sys2Proof.Config
end

