-- ==== Sys2Proof/Machine/State.lean ====
section
/-!
DEFINITION. The state of the part, block by block as 00_scope.md section 2 lists the blocks, as plain data, and the
state right after reset. INVENTORY.md lists every field with its rule and its reset value.

The part has no addressed memory, so there is no memory list here.
-/

namespace Sys2Proof.Machine

/-! ## Time Base -/

/-- Time Base (R22, R23). -/
structure TimeBase where
  /-- measurement ticks toward the next tick event -/
  subTicks : Nat
  /-- tick events since reset -/
  tickCount : Nat
  /-- the tenth tick event has occurred and its second event is still to be taken (log 4) -/
  secondDue : Bool
  /-- office time in seconds, 0 to 4,294,967,295 -/
  officeTime : Nat
deriving DecidableEq, Repr

/-- A timer counted in seconds: its expiry, and whether the second event that reaches it has occurred (R24, log 5).
An expired timer is absent, so timers stand in an Option. -/
structure SecondTimer where
  expiry : Nat
  reached : Bool
deriving DecidableEq, Repr

/-! ## Frequency Monitor -/

/-- Frequency state of a channel (R25). -/
inductive FreqState where
  | unmeasured | inRange | outOfRange
deriving DecidableEq, Repr

/-- A gate in progress (R25). -/
structure Gate where
  edges : Nat
  ticks : Nat
deriving DecidableEq, Repr

/-- One measurement channel (R25). -/
structure Channel where
  /-- signal presence: true is PRESENT, false is LOST -/
  present : Bool
  /-- last pin sample, at the measurement tick before: true is high -/
  pinHigh : Bool
  /-- the pin sample of the present measurement tick: true is high (log 6) -/
  pinNow : Bool
  edgeWatch : Nat
  /-- the pin sample of the present measurement tick, at which the edge watch is at its limit, is in (log 33) -/
  sampleClosed : Bool
  gate : Option Gate
  lastRaw : Option Int
  saturated : Bool
  filtered : Option Int
  freq : FreqState
deriving DecidableEq, Repr

/-- Frequency Monitor: the oscillator trim and 40 channels (R25, R33). -/
structure Monitor where
  trim : Int
  channels : Vector Channel 40
deriving DecidableEq, Repr

/-! ## Reference Unit -/

/-- Kind of a reference (R3). -/
inductive RefKind where
  | unused | line | ext | sat | feed
deriving DecidableEq, Repr

/-- Grade source of a reference (R5). -/
inductive GradeSource where
  | message | fixed | traced
deriving DecidableEq, Repr

/-- The two code plans (R60). -/
inductive PlanName where
  | a | b
deriving DecidableEq, Repr

/-- Availability of a reference (section 1.8). -/
inductive Availability where
  | available | failing | failed | restoring
deriving DecidableEq, Repr

/-- The configuration part of a reference record (R5). -/
structure RefConfig where
  kind : RefKind
  homeShelf : Option ShelfNo
  slot : Option SlotNo
  gradeSource : GradeSource
  fixedGrade : Nat
  codePlan : PlanName
  staleGrade : Nat
  gateLength : Nat
  filterShift : Nat
  pullLimit : Nat
  hysteresis : Nat
  failDelay : Nat
  restoreDelay : Nat
  messageAgeLimit : Nat
  /-- FAILING, FAILED, RESTORING, AVAILABLE, GRADE, STALE, FREQ from bit 0 (R169) -/
  reportMask : BitVec 7
deriving DecidableEq, Repr

/-- The running part of a reference record (R8), less the effective grade, which is derived. -/
structure RefRunning where
  availability : Availability
  firstQualification : Bool
  /-- expiry tick -/
  failTimer : Option Nat
  restoreTimer : Option SecondTimer
  adopted : Option Code
  candidate : Option Code
  candidateCount : Nat
  messageAge : Option SecondTimer
  cardDefect : Bool
  override : Option Nat
deriving DecidableEq, Repr

/-- A record of the Reference Table (R1). -/
structure RefRecord where
  cfg : RefConfig
  run : RefRunning
deriving DecidableEq, Repr

/-- A code plan (R60): the receive map by code, the send map by grade, 1 to 12 and then 15. -/
structure CodePlan where
  receive : Vector Nat 16
  send : Vector Code 13
deriving DecidableEq, Repr

/-- Reference Unit (R1, R60, R64). -/
structure ReferenceUnit where
  records : Vector RefRecord 40
  planA : CodePlan
  planB : CodePlan
  persistence : Nat
deriving DecidableEq, Repr

/-! ## Quality Highway Receiver -/

/-- Receive pulse mode (R43). -/
inductive PulseMode where
  | ignore | realign
deriving DecidableEq, Repr

/-- A slot assembler (R43). -/
inductive Assembler where
  | hunt
  | collect (length : Nat) (words : List WordValue)
deriving DecidableEq, Repr

/-- What the receiver keeps while ALIGNED (R43). -/
structure Framing where
  /-- the bit of the frame last sampled -/
  position : Nat
  /-- frame watch -/
  watch : Nat
  /-- a run-out has already counted the miss of the next frame start (R46, log 8) -/
  missCounted : Bool
deriving DecidableEq, Repr

/-- Quality Highway Receiver (R43). Alignment is ALIGNED exactly where framing is present. -/
structure QhReceiver where
  framing : Option Framing
  missing : Nat
  pulseMode : PulseMode
  assemblers : Vector Assembler 48
  checkErrors : Nat
  markErrors : Nat
  misroutes : Nat
deriving DecidableEq, Repr

/-! ## Selection Engine -/

/-- Class of a timing card (R72). -/
inductive CardClass where
  | a | b | c
deriving DecidableEq, Repr

/-- Reject reason (R73). -/
inductive RejectReason where
  | disabled | cardClass
deriving DecidableEq, Repr

/-- The name of a timing state (R73), as reports and replies carry it. -/
inductive TimingState where
  | freeRun | acquire | locked | holdover
deriving DecidableEq, Repr

/-- A fallback (R73). -/
inductive Fallback where
  | holdover | freeRun
deriving DecidableEq, Repr

/-- Holdover-start and the aged flag, with whether the second event that reaches the aging has occurred (R90,
log 5). -/
structure Holdover where
  start : Nat
  aged : Bool
  reached : Bool
deriving DecidableEq, Repr

/-- The acquire origin, with what R83 carries into ACQUIRE from it: from LOCKED the fallback and the carried grade,
from HOLDOVER the holdover-start and aged flag (fallback HOLDOVER), from FREE_RUN nothing (fallback FREE_RUN). -/
inductive Origin where
  | locked (fallback : Fallback) (carried : Nat)
  | holdover (h : Holdover)
  | freeRun
deriving DecidableEq, Repr

/-- Timing state of a joined shelf with the fields R73 makes present in it (log 18). -/
inductive Timing where
  | freeRun
  | acquire (target : RefNo) (origin : Origin) (expiry : SecondTimer)
  | locked (ref : RefNo) (since : Nat)
  | holdover (h : Holdover)
deriving DecidableEq, Repr

/-- Switch request (R118). -/
inductive SwitchRequest where
  | none
  | forced (r : RefNo)
  | manual (r : RefNo)
deriving DecidableEq, Repr

/-- What a shelf holds while JOINED: the fields that R82 clears when it leaves JOINED (log 18). -/
structure JoinedCard where
  cardClass : CardClass
  timing : Timing
  request : SwitchRequest
  proposed : Option RefNo
deriving DecidableEq, Repr

/-- Admission (R73). -/
inductive Admission where
  | vacant
  | rejected (reason : RejectReason)
  | joined (card : JoinedCard)
deriving DecidableEq, Repr

/-- A candidate list entry with its refused-until; armed while the run-out of the mark is still to come (R91,
log 5). -/
structure Candidate where
  ref : RefNo
  lockout : Bool
  refusedUntil : Nat
  armed : Bool
deriving DecidableEq, Repr

/-- The configuration part of a shelf record but for its candidate list (R72). -/
structure ShelfConfig where
  enabled : Bool
  /-- A, B, C from bit 0 (R169) -/
  classes : BitVec 3
  reportSlot : Option SlotNo
  revertive : Bool
  minimumGrade : Nat
  acquireLimit : Nat
  qualifyTime : Nat
  holdoverGrade : Nat
  freeRunGrade : Nat
  holdoverLimit : Nat
  refusalPeriod : Nat
  /-- the 13 shelf kinds in the order of R72 from bit 0 (R169) -/
  reportMask : BitVec 13
deriving DecidableEq, Repr

/-- A record of the Shelf Table (R72, R73). -/
structure Shelf where
  cfg : ShelfConfig
  candidates : List Candidate
  admission : Admission
  silence : Option SecondTimer
  hold : Bool
deriving DecidableEq, Repr

/-- The visit list of the running pass and the position in it (R107). -/
structure Pass where
  visits : List ShelfNo
  position : Nat
deriving DecidableEq, Repr

/-- Selection Engine (R72, R107). The pass state is RUNNING exactly where pass is present. -/
structure Engine where
  shelves : Vector Shelf 32
  depthLimit : Nat
  silenceLimit : Nat
  passPending : Bool
  pass : Option Pass
  passCount : Nat
deriving DecidableEq, Repr

/-! ## Distribution Highway Transmitter -/

/-- A block in progress: its sampled words and the number already sent (R133). -/
structure DhBlock where
  words : List Byte
  sent : Nat
deriving DecidableEq, Repr

/-- One outgoing slot: its block in progress, and the word it carries in the frame in progress, absent until the
slot's word position in that frame (R136). -/
structure DhSlot where
  block : Option DhBlock
  word : Option Byte
deriving DecidableEq, Repr

/-- Distribution Highway Transmitter (R133). -/
structure DhTransmitter where
  enable : Bool
  /-- measurement ticks since the frame start -/
  ticks : Nat
  /-- the bit of the frame being sent, 1 to 384 -/
  position : Nat
  /-- the enable under which the frame in progress was started, absent before the first frame (R135) -/
  frame : Option Bool
  slots : Vector DhSlot 48
  rotation : Vector (Option RefNo) 16
deriving DecidableEq, Repr

/-! ## Report Queue -/

/-- Details of REF_FAILED (R144). -/
inductive FailDetail where
  | immediate | timer | restoring | reconfigured
deriving DecidableEq, Repr

/-- Details of REF_AVAILABLE (R144). -/
inductive AvailableDetail where
  | first | recovered | immediate | restored | cleared
deriving DecidableEq, Repr

/-- What a reset came from (R144). -/
inductive ResetCause where
  | pin | request
deriving DecidableEq, Repr

/-- Operating mode (R154). -/
inductive Mode where
  | normal | maintenance
deriving DecidableEq, Repr

/-- A report: its kind with its subject and detail, as the table of R144 lists them. -/
inductive Report where
  | refFailing (r : RefNo)
  | refFailed (r : RefNo) (d : FailDetail)
  | refRestoring (r : RefNo)
  | refAvailable (r : RefNo) (d : AvailableDetail)
  | refGrade (r : RefNo) (grade : Nat)
  | refStale (r : RefNo)
  | refFreq (r : RefNo) (inRange : Bool)
  | cardJoined (h : ShelfNo) (cls : CardClass)
  | cardRejected (h : ShelfNo) (reason : RejectReason)
  | cardRestart (h : ShelfNo) (cls : CardClass)
  | cardWithdrawn (h : ShelfNo)
  | cardSilent (h : ShelfNo)
  | shelfState (h : ShelfNo) (t : TimingState)
  | switchDone (h : ShelfNo) (r : RefNo)
  | acquireTimeout (h : ShelfNo) (r : RefNo)
  | acquireAbandoned (h : ShelfNo) (r : RefNo)
  | lockLost (h : ShelfNo) (r : RefNo)
  | lateLock (h : ShelfNo) (r : RefNo)
  | manualDropped (h : ShelfNo) (r : RefNo)
  | holdoverAged (h : ShelfNo)
  | qhSync
  | qhLost
  | qhRecovered
  | qhCheck (slot : SlotNo)
  | qhMisroute (tag : Nat)
  | start (cause : ResetCause)
  | evalLimit
  | portFrameError
  | portOverrun
  | modeChanged (m : Mode)
deriving DecidableEq, Repr

/-- A record of the queue (R146). -/
structure Record where
  report : Report
  first : Nat
  last : Nat
  count : Nat
deriving DecidableEq, Repr

/-- Service state (R146). -/
inductive ServiceState where
  | closed | opened
deriving DecidableEq, Repr

/-- Report Queue (R146) with the attention line it drives (R149). -/
structure ReportQueue where
  /-- oldest first -/
  records : List Record
  service : ServiceState
  inService : Nat
  lost : Nat
  threshold : Nat
  ageLimit : Nat
  attention : Bool
deriving DecidableEq, Repr

/-! ## Message Port -/

/-- The frame in assembly: the length byte, the bytes received from type onward and the running sums (R154). -/
structure Assembly where
  length : Nat
  bytes : List Byte
  sum1 : Nat
  sum2 : Nat
deriving DecidableEq, Repr

/-- Receive state with the frame in assembly (R154, R156). -/
inductive Receive where
  | hunt
  | length
  | body (a : Assembly)
  | check1 (a : Assembly)
  | check2 (a : Assembly) (first : Byte)
deriving DecidableEq, Repr

/-- A complete request frame (R156). -/
structure Frame where
  type : Byte
  tag : Byte
  body : List Byte
deriving DecidableEq, Repr

/-- A reply being sent: its bytes still to go, the time spent on the first of them, and whether its last stop bit
resets the part (R154, R160, R165). -/
structure Sending where
  /-- oldest first; empty once the last byte is out and REPLY_END is due -/
  bytes : List Byte
  /-- eighteenths of a measurement tick since the start of the byte being sent (log 12) -/
  elapsed : Nat
  resetAtEnd : Bool
deriving DecidableEq, Repr

/-- Message Port (R154). The transmit state is IDLE exactly where transmit is absent. -/
structure Port where
  receive : Receive
  byteWatch : Nat
  /-- oldest first -/
  buffer : List Frame
  transmit : Option Sending
  mode : Mode
deriving DecidableEq, Repr

/-! ## The whole part -/

/-- The part, its reset pin, and the sender's queue of commands, oldest first. -/
structure State where
  time : TimeBase
  monitor : Monitor
  refs : ReferenceUnit
  qh : QhReceiver
  engine : Engine
  dh : DhTransmitter
  queue : ReportQueue
  port : Port
  /-- the reset pin is asserted (R166) -/
  resetHeld : Bool
  /-- the commands that are waiting (log 21) -/
  pending : List Instr
deriving DecidableEq, Repr

/-- Reasons a command is one the part cannot be given. Each is raised by a command that names something outside the
part's tables; the part has no such pin, shelf or slot, so stopping there is safe (log 20). -/
inductive Fault where
  /-- Raised by the events of one reference when the number is 40 or above. Safe. -/
  | noSuchReference
  /-- Raised by the events of one shelf when the number is 32 or above. Safe. -/
  | noSuchShelf
  /-- Raised by WORD_RECEIVED, COMMAND_BLOCK_START and QUALITY_BLOCK_START for a slot outside their range. Safe. -/
  | noSuchSlot
deriving DecidableEq, Repr

/-- Reasons a command has no meaning in the model. -/
inductive Refusal where
  /-- Raised by an arm of exec whose command has no meaning yet; no arm does. Safe. -/
  | notModelled (mnemonic : String)
deriving DecidableEq, Repr

/-! ## Reset values -/

/-- R23. -/
def TimeBase.initial : TimeBase := ⟨0, 0, false, 0⟩

/-- R25, last column; edge watch 0 is a DESIGN CHOICE (log 19). -/
def Channel.initial : Channel := ⟨false, false, false, 0, false, none, none, false, none, .unmeasured⟩

/-- R5, reset values. -/
def RefConfig.initial : RefConfig where
  kind := .unused
  homeShelf := none
  slot := none
  gradeSource := .fixed
  fixedGrade := 15
  codePlan := .a
  staleGrade := 15
  gateLength := 4
  filterShift := 2
  pullLimit := 18400
  hysteresis := 2000
  failDelay := 25
  restoreDelay := 300
  messageAgeLimit := 5
  reportMask := 0x7f#7

/-- R2, running fields. -/
def RefRunning.initial : RefRunning := ⟨.failed, true, none, none, none, none, 0, none, false, none⟩

/-- R60, reset contents. -/
def CodePlan.initial : CodePlan where
  receive := #v[15, 1, 2, 3, 4, 5, 6, 7, 8, 9, 10, 11, 12, 15, 15, 15]
  send := #v[1, 2, 3, 4, 5, 6, 7, 8, 9, 10, 11, 12, 15]

/-- R43. -/
def QhReceiver.initial : QhReceiver := ⟨none, 0, .realign, Vector.replicate 48 .hunt, 0, 0, 0⟩

/-- R72, reset values. -/
def ShelfConfig.initial : ShelfConfig where
  enabled := false
  classes := 0b111#3
  reportSlot := none
  revertive := false
  minimumGrade := 12
  acquireLimit := 10
  qualifyTime := 600
  holdoverGrade := 11
  freeRunGrade := 12
  holdoverLimit := 86400
  refusalPeriod := 60
  reportMask := 0x1fff#13

/-- R72 and R73: VACANT and held. -/
def Shelf.initial : Shelf := ⟨.initial, [], .vacant, none, true⟩

/-- R107. -/
def Engine.initial : Engine := ⟨Vector.replicate 32 .initial, 4, 3, false, none, 0⟩

/-- R133; the tick count makes the first frame start at the first measurement tick (R134, log 11). -/
def DhTransmitter.initial : DhTransmitter :=
  ⟨true, 2499, 1, none, Vector.replicate 48 ⟨none, none⟩, Vector.replicate 16 none⟩

/-- R146: the START record alone; the attention line is asserted since the threshold is 1. -/
def ReportQueue.initial (cause : ResetCause) : ReportQueue := ⟨[⟨.start cause, 0, 0, 1⟩], .closed, 0, 0, 1, 0, true⟩

/-- R154; byte watch 0 is a DESIGN CHOICE (log 19). -/
def Port.initial : Port := ⟨.hunt, 0, [], none, .normal⟩

/-- Every block at its reset values (R166), with no command waiting. -/
def State.afterReset (cause : ResetCause) : State where
  time := .initial
  monitor := ⟨0, Vector.replicate 40 .initial⟩
  refs := ⟨Vector.replicate 40 ⟨.initial, .initial⟩, .initial, .initial, 3⟩
  qh := .initial
  engine := .initial
  dh := .initial
  queue := .initial cause
  port := .initial
  resetHeld := false
  pending := []

/-- The part right after the release of the reset pin (R166). -/
def State.reset : State := .afterReset .pin

end Sys2Proof.Machine
end

