-- ==== Sys2Proof/Machine/Flags.lean ====
section
/-!
DEFINITION. Conditions and derived fields: what the part computes from its state and does not store. The defect
condition, effective and traced grades, root, chain, depth and height, eligibility and the choice, the attention
condition, and which counted events are due.
-/

namespace Sys2Proof.Machine

open Sys2Proof

/-! ## Reading the tables -/

/-- Record r of the Reference Table. -/
def State.ref (s : State) (r : RefNo) : RefRecord := s.refs.records[r]

/-- Frequency Monitor channel r. -/
def State.chan (s : State) (r : RefNo) : Channel := s.monitor.channels[r]

/-- Record h of the Shelf Table. -/
def State.shelf (s : State) (h : ShelfNo) : Shelf := s.engine.shelves[h]

/-- The assembler of a Quality Highway slot. -/
def State.assembler (s : State) (n : SlotNo) : Assembler := s.qh.assemblers[n]

/-- A slot of the Distribution Highway. -/
def State.dhSlot (s : State) (n : SlotNo) : DhSlot := s.dh.slots[n]

/-- A code plan by name (R60). -/
def State.plan (s : State) : PlanName → CodePlan
  | .a => s.refs.planA
  | .b => s.refs.planB

/-- "Now" in any rule: office time as it stands (R23). -/
def State.now (s : State) : Nat := s.time.officeTime

/-- All references in ascending number. -/
def allRefs : List RefNo := List.finRange 40

/-- All shelves in ascending number. -/
def allShelves : List ShelfNo := List.finRange 32

/-- All slots in ascending number. -/
def allSlots : List SlotNo := List.finRange 48

/-- A time past the top value is held at the top value (R18, R66, R78, R83, R90, R91). -/
def capTime (t : Nat) : Nat := min t Config.topTime

/-- The time d seconds from now as a timer holds it; the second event that reaches it is still to come (R24). -/
def State.timerIn (s : State) (d : Nat) : SecondTimer := ⟨capTime (s.now + d), false⟩

/-! ## References -/

/-- The defect condition of a reference (R13). -/
def State.defect (s : State) (r : RefNo) : Bool :=
  !(s.chan r).present || (s.chan r).freq == .unmeasured || (s.chan r).freq == .outOfRange || (s.ref r).run.cardDefect

/-- AVAILABLE and FAILING (section 1.8). -/
def Availability.usable : Availability → Bool
  | .available => true
  | .failing => true
  | .failed => false
  | .restoring => false

/-- The home shelf of a reference that is a FEED. -/
def State.feedHome (s : State) (r : RefNo) : Option ShelfNo :=
  if (s.ref r).cfg.kind = .feed then (s.ref r).cfg.homeShelf else none

/-- A grade the part can hold: 1 to 12, or 15 (00_scope.md section 4.2). -/
def gradeValid (g : Nat) : Bool := (decide (1 ≤ g) && decide (g ≤ 12)) || g == 15

/-- The effective grade of a reference that is not a FEED (R68). -/
def State.localGrade (s : State) (r : RefNo) : Nat :=
  match (s.ref r).run.override with
  | some g => g
  | none =>
    match (s.ref r).cfg.gradeSource with
    | .message =>
      match (s.ref r).run.adopted with
      | some c => (s.plan (s.ref r).cfg.codePlan).receive[c]
      | none => (s.ref r).cfg.staleGrade
    | _ => (s.ref r).cfg.fixedGrade

/-! ## Shelves -/

/-- The name of a timing state. -/
def Timing.name : Timing → TimingState
  | .freeRun => .freeRun
  | .acquire _ _ _ => .acquire
  | .locked _ _ => .locked
  | .holdover _ => .holdover

/-- The selected reference: the reference LOCKED on or the ACQUIRE target (R73). -/
def Timing.selected : Timing → Option RefNo
  | .freeRun => none
  | .acquire r _ _ => some r
  | .locked r _ => some r
  | .holdover _ => none

/-- What a shelf holds while JOINED. -/
def Shelf.card (x : Shelf) : Option JoinedCard :=
  match x.admission with
  | .joined c => some c
  | _ => none

/-- A shelf that is JOINED. -/
def Shelf.isJoined (x : Shelf) : Bool := x.card.isSome

/-- The timing state of a joined shelf. -/
def Shelf.timing (x : Shelf) : Option Timing := x.card.map (·.timing)

/-- The selected reference of a shelf; a shelf that is not JOINED has none (R95). -/
def Shelf.selected (x : Shelf) : Option RefNo := x.timing.bind Timing.selected

/-- The switch request of a shelf; a shelf that is not JOINED has none (R82). -/
def Shelf.request (x : Shelf) : SwitchRequest := (x.card.map (·.request)).getD .none

/-- A shelf in ACQUIRE. -/
def Shelf.acquiring (x : Shelf) : Bool :=
  match x.timing with
  | some (.acquire _ _ _) => true
  | _ => false

/-- Holdover-start with its aged flag, in HOLDOVER and in ACQUIRE with origin HOLDOVER (R73). -/
def Timing.heldOver : Timing → Option Holdover
  | .holdover h => some h
  | .acquire _ (.holdover h) _ => some h
  | _ => none

/-- The grade of a shelf in holdover: the holdover grade, or once aged the free-run grade (R92). -/
def ShelfConfig.holdoverTrace (c : ShelfConfig) (h : Holdover) : Nat :=
  if h.aged then c.freeRunGrade else c.holdoverGrade

/-- The traced grade of a shelf (R92), following LOCKED FEEDs for at most fuel shelves. A chain that returns to
itself, which R101 rules out, and a FEED without a home shelf, which R7 rules out, yield 15 (log 17). -/
def State.tracedFrom : Nat → State → ShelfNo → Nat
  | 0, _, _ => 15
  | fuel + 1, s, h =>
    match (s.shelf h).timing with
    | none => 15
    | some (.locked r _) =>
      if (s.ref r).cfg.kind = .feed then
        match (s.ref r).cfg.homeShelf with
        | some t => State.tracedFrom fuel s t
        | none => 15
      else s.localGrade r
    | some (.acquire _ (.locked _ carried) _) => carried
    | some (.acquire _ (.holdover o) _) => (s.shelf h).cfg.holdoverTrace o
    | some (.acquire _ .freeRun _) => (s.shelf h).cfg.freeRunGrade
    | some (.holdover o) => (s.shelf h).cfg.holdoverTrace o
    | some .freeRun => (s.shelf h).cfg.freeRunGrade

/-- The traced grade of a shelf (R92). -/
def State.tracedGrade (s : State) (h : ShelfNo) : Nat := State.tracedFrom Config.chainFuel s h

/-- The effective grade of a reference: R68, and for a FEED the traced grade of its home shelf (R98). -/
def State.effectiveGrade (s : State) (r : RefNo) : Nat :=
  if (s.ref r).cfg.kind = .feed then
    match (s.ref r).cfg.homeShelf with
    | some t => s.tracedGrade t
    | none => 15
  else s.localGrade r

/-- The root of a shelf (R93). -/
def State.rootFrom : Nat → State → ShelfNo → Option RefNo
  | 0, _, _ => none
  | fuel + 1, s, h =>
    match (s.shelf h).timing with
    | some (.locked r _) =>
      if (s.ref r).cfg.kind = .feed then
        match (s.ref r).cfg.homeShelf with
        | some t => State.rootFrom fuel s t
        | none => none
      else some r
    | _ => none

/-- The root of a shelf (R93). -/
def State.root (s : State) (h : ShelfNo) : Option RefNo := State.rootFrom Config.chainFuel s h

/-- The next shelf of a chain: the home shelf of the FEED the shelf is LOCKED on or in ACQUIRE toward (R95). -/
def State.nextOnChain (s : State) (h : ShelfNo) : Option ShelfNo := (s.shelf h).selected.bind s.feedHome

/-- The chain of a shelf (R95). -/
def State.chainFrom : Nat → State → ShelfNo → List ShelfNo
  | 0, _, _ => []
  | fuel + 1, s, h =>
    h :: match s.nextOnChain h with
      | some t => State.chainFrom fuel s t
      | none => []

/-- The chain of a shelf (R95). -/
def State.chain (s : State) (h : ShelfNo) : List ShelfNo := State.chainFrom Config.chainFuel s h

/-- The number of FEED hops in a shelf's chain (R96). -/
def State.depth (s : State) (h : ShelfNo) : Nat := (s.chain h).length - 1

/-- The greatest number of hops from any shelf whose chain contains h down to h (R96). -/
def State.height (s : State) (h : ShelfNo) : Nat :=
  (allShelves.map fun u => if h ∈ s.chain u then (s.chain u).idxOf h else 0).foldl max 0

/-- The shelves LOCKED on a reference or in ACQUIRE toward it (R12). -/
def State.users (s : State) (r : RefNo) : List ShelfNo :=
  allShelves.filter fun h => (s.shelf h).selected == some r

/-! ## Eligibility and the choice -/

/-- The four conditions of R100 on a FEED of home shelf t for shelf h. -/
def State.feedFits (s : State) (h t : ShelfNo) : Bool :=
  decide (t ≠ h) && (s.shelf t).isJoined && !(s.chain t).contains h
    && decide (s.depth t + 1 + s.height h ≤ s.engine.depthLimit)

/-- The FEED conditions of R100, which hold of every reference that is not a FEED. -/
def State.loopFree (s : State) (h : ShelfNo) (r : RefNo) : Bool :=
  if (s.ref r).cfg.kind = .feed then
    match (s.ref r).cfg.homeShelf with
    | some t => s.feedFits h t
    | none => false
  else true

/-- Eligibility of a candidate entry of shelf h (R99, R100). -/
def State.eligible (s : State) (h : ShelfNo) (e : Candidate) : Bool :=
  decide ((s.ref e.ref).cfg.kind ≠ .unused) && (s.ref e.ref).run.availability.usable && !e.lockout
    && decide (e.refusedUntil ≤ s.now) && decide (s.effectiveGrade e.ref ≤ (s.shelf h).cfg.minimumGrade)
    && s.loopFree h e.ref

/-- The entry of a shelf that names a reference. -/
def Shelf.entry (x : Shelf) (r : RefNo) : Option Candidate := x.candidates.find? fun e => e.ref == r

/-- A reference whose entry on shelf h is eligible. -/
def State.eligibleRef (s : State) (h : ShelfNo) (r : RefNo) : Bool :=
  match (s.shelf h).entry r with
  | some e => s.eligible h e
  | none => false

/-- The eligible candidates of a shelf in list order. -/
def State.eligibleRefs (s : State) (h : ShelfNo) : List RefNo :=
  ((s.shelf h).candidates.filter (s.eligible h)).map (·.ref)

/-- The earliest of the references with the best grade. -/
def State.bestOf (s : State) : List RefNo → Option RefNo
  | [] => none
  | r :: rest =>
    match s.bestOf rest with
    | none => some r
    | some x => if s.effectiveGrade x < s.effectiveGrade r then some x else some r

/-- The choice for a revertive shelf (R102). -/
def State.bestChoice (s : State) (h : ShelfNo) : Option RefNo := s.bestOf (s.eligibleRefs h)

/-- The automatic choice of a joined shelf (R102, R103). -/
def State.autoChoice (s : State) (h : ShelfNo) : Option RefNo :=
  match (s.shelf h).cfg.revertive, (s.shelf h).timing with
  | false, some (.locked r _) =>
    if s.eligibleRef h r && (s.eligibleRefs h).all (fun x => decide (s.effectiveGrade r ≤ s.effectiveGrade x)) then
      some r
    else s.bestChoice h
  | _, _ => s.bestChoice h

/-- The choice under FORCED r (R121). -/
def State.forcedChoice (s : State) (h : ShelfNo) (r : RefNo) : Option RefNo :=
  if (s.ref r).run.availability.usable && s.loopFree h r then some r else none

/-- The choice of a shelf under its switch request (R102, R103, R121, R123). -/
def State.choice (s : State) (h : ShelfNo) : Option RefNo :=
  match (s.shelf h).request with
  | .none => s.autoChoice h
  | .forced r => s.forcedChoice h r
  | .manual r => if s.eligibleRef h r then some r else s.autoChoice h

/-- Whether a shelf is in a visit list: JOINED and not in ACQUIRE (R109). -/
def Shelf.visitable (x : Shelf) : Bool := x.isJoined && !x.acquiring

/-- The visit list of R109: ascending depth, and for equal depths ascending shelf number. -/
def State.visitOrder (s : State) : List ShelfNo :=
  let keyed := (allShelves.filter fun h => (s.shelf h).visitable).map fun h => (s.depth h, h)
  (List.range Config.chainFuel).flatMap fun d => (keyed.filter fun k => k.1 == d).map (·.2)

/-! ## The Distribution Highway -/

/-- The advertised grade of LINE reference r whose home shelf is h (R141). -/
def State.advertisedGrade (s : State) (r : RefNo) (h : ShelfNo) : Nat :=
  if !(s.shelf h).isJoined then 15
  else if s.root h = some r then 15
  else s.tracedGrade h

/-- The place of a grade in a send map (R60): grades 1 to 12, then 15. Any other number, which no rule yields, is
given the place of 15 (log 27). -/
def sendIndex (g : Nat) : Fin 13 :=
  if h : 1 ≤ g ∧ g ≤ 12 then ⟨g - 1, by omega⟩ else 12

/-- The group of quality slot 32 + j: LINE references r with r mod 16 = j, ascending (R139). -/
def State.qualityGroup (s : State) (j : Fin 16) : List RefNo :=
  allRefs.filter fun r => decide (r.val % 16 = j.val) && decide ((s.ref r).cfg.kind = .line)

/-- The subject of a block start in quality slot 32 + j (R139). -/
def State.qualitySubject (s : State) (j : Fin 16) : Option RefNo :=
  match s.dh.rotation[j] with
  | some p =>
    match (s.qualityGroup j).find? fun r => decide (p < r) with
    | some r => some r
    | none => (s.qualityGroup j).head?
  | none => (s.qualityGroup j).head?

/-! ## The attention line -/

/-- The condition under which the attention line is asserted (R149). -/
def ReportQueue.attentionCondition (q : ReportQueue) (now : Nat) : Bool :=
  q.service == .closed &&
    (decide (q.threshold ≤ q.records.length) ||
      (decide (0 < q.ageLimit) &&
        match q.records with
        | [] => false
        | oldest :: _ => decide (q.ageLimit ≤ now - oldest.first)))

/-! ## Events that are due

A counted event can take place only when its count has reached its limit (log 2); a step on an empty queue waits
while one is due (log 3). -/

/-- A tick event is due (R22). -/
def State.tickEventDue (s : State) : Bool := decide (Config.ticksPerTickEvent ≤ s.time.subTicks) && !s.time.secondDue

/-- The edge watch of a PRESENT channel has reached its limit (R28). -/
def Channel.atWatchLimit (c : Channel) : Bool := c.present && decide (Config.edgeWatchLimit ≤ c.edgeWatch)

/-- The edge watch of a channel has reached its limit at this tick, whose sample is not yet in: an edge can still be
sampled (R28; log 33). -/
def Channel.watchFull (c : Channel) : Bool := c.atWatchLimit && !c.sampleClosed

/-- The signal of channel r is lost now: the edge watch reached its limit at this tick, whose sample is in and gave no
edge (R28; log 33). -/
def State.signalLossDue (s : State) (r : RefNo) : Bool := (s.chan r).atWatchLimit && (s.chan r).sampleClosed

/-- The fail timer of ref r expires now (R15, R17). -/
def State.failTimerDue (s : State) (r : RefNo) : Bool :=
  decide ((s.ref r).run.availability = .failing) &&
    match (s.ref r).run.failTimer with
    | some n => decide (n ≤ s.time.tickCount)
    | none => false

/-- A second-counted timer that has been reached (R24). -/
def timerReached (t : Option SecondTimer) : Bool :=
  match t with
  | some x => x.reached
  | none => false

/-- The restore timer of ref r expires now (R16, R18). -/
def State.restoreTimerDue (s : State) (r : RefNo) : Bool :=
  decide ((s.ref r).run.availability = .restoring) && timerReached (s.ref r).run.restoreTimer

/-- The message age expiry of ref r is reached (R66). -/
def State.messageAgeDue (s : State) (r : RefNo) : Bool := timerReached (s.ref r).run.messageAge

/-- The card silence expiry of shelf h is reached (R81). -/
def State.silenceDue (s : State) (h : ShelfNo) : Bool := timerReached (s.shelf h).silence

/-- The acquire expiry of shelf h is reached (R85). -/
def State.acquireDue (s : State) (h : ShelfNo) : Bool :=
  match (s.shelf h).timing with
  | some (.acquire _ _ t) => t.reached
  | _ => false

/-- The time at which the aging of a holdover falls due, with a limit other than 0 (R90). -/
def ShelfConfig.agingTime (c : ShelfConfig) (o : Holdover) : Nat := capTime (o.start + c.holdoverLimit)

/-- The holdover of shelf h ages now (R90). -/
def State.agingDue (s : State) (h : ShelfNo) : Bool :=
  match (s.shelf h).timing.bind Timing.heldOver with
  | some o => decide ((s.shelf h).cfg.holdoverLimit ≠ 0) && !o.aged && o.reached
  | none => false

/-- The refusal mark of an entry runs out now (R91). -/
def State.markDue (s : State) (h : ShelfNo) (r : RefNo) : Bool :=
  match (s.shelf h).entry r with
  | some e => e.armed && decide (e.refusedUntil ≤ s.now)
  | none => false

/-- The frame watch has run out (R46). -/
def State.frameWatchDue (s : State) : Bool :=
  match s.qh.framing with
  | some f => decide (Config.frameWatchLimit ≤ f.watch)
  | none => false

/-- The byte watch has reached its limit outside HUNT (R157). -/
def State.byteWatchDue (s : State) : Bool :=
  decide (s.port.receive ≠ .hunt) && decide (Config.byteWatchLimit ≤ s.port.byteWatch)

/-- The last byte of the reply is out, so that its last stop bit is the event REPLY_END (R160). -/
def State.replyEndDue (s : State) : Bool :=
  match s.port.transmit with
  | some r => r.bytes.isEmpty
  | none => false

/-- An outgoing frame starts now (R134). -/
def State.dhFrameDue (s : State) : Bool := decide (Config.ticksPerFrame ≤ s.dh.ticks)

/-- A block start takes place in slot n now: the frame was started with the enable on, the slot's first bit has come
and the slot has no block in progress and no word yet in this frame (R136). -/
def State.blockStartDue (s : State) (n : SlotNo) : Bool :=
  s.dh.frame == some true && decide (8 * n.val + 1 ≤ s.dh.position)
    && (s.dhSlot n).block.isNone && (s.dhSlot n).word.isNone

/-- Some counted event is due. -/
def State.timeEventDue (s : State) : Bool :=
  s.tickEventDue || s.time.secondDue || s.frameWatchDue || s.byteWatchDue || s.replyEndDue || s.dhFrameDue
    || allRefs.any (fun r => s.signalLossDue r || s.failTimerDue r || s.restoreTimerDue r || s.messageAgeDue r)
    || allShelves.any (fun h => s.silenceDue h || s.acquireDue h || s.agingDue h
        || (s.shelf h).candidates.any (fun e => s.markDue h e.ref))
    || allSlots.any s.blockStartDue

end Sys2Proof.Machine
end

