-- ==== Sys2Proof/Machine/Ops.lean ====
section
/-!
DEFINITION. The named operations over the state that the commands share: writing a record, posting a report, moving
a shelf between timing states, moving a reference between availability states, and handing on a change of grade.
-/

namespace Sys2Proof.Machine

open Sys2Proof

/-- What a command answers. -/
abbrev Result := Host.Outcome State Fault Refusal

/-! ## When a command takes place -/

/-- An event of the part: it has its effect, or none while the reset pin is asserted (R166, log 14). -/
def event (s : State) (f : State → State) : Result := if s.resetHeld then .next s else .next (f s)

/-- An event that takes place only where its condition holds and otherwise changes nothing (log 2). -/
def eventIf (due : Bool) (s : State) (f : State → State) : Result :=
  if s.resetHeld || !due then .next s else .next (f s)

/-- A command that names a reference. -/
def onRef (r : Nat) (f : RefNo → Result) : Result := if h : r < 40 then f ⟨r, h⟩ else .fault .noSuchReference

/-- A command that names a shelf. -/
def onShelf (h : Nat) (f : ShelfNo → Result) : Result := if g : h < 32 then f ⟨h, g⟩ else .fault .noSuchShelf

/-- A command that names a highway slot. -/
def onSlot (n : Nat) (f : SlotNo → Result) : Result := if g : n < 48 then f ⟨n, g⟩ else .fault .noSuchSlot

/-! ## Writing one record -/

/-- Write record r of the Reference Table. -/
def State.setRef (r : RefNo) (x : RefRecord) (s : State) : State :=
  { s with refs := { s.refs with records := s.refs.records.set r x } }

/-- Change the running part of record r. -/
def State.setRun (r : RefNo) (f : RefRunning → RefRunning) (s : State) : State :=
  s.setRef r { s.ref r with run := f (s.ref r).run }

/-- Write Frequency Monitor channel r. -/
def State.setChan (r : RefNo) (x : Channel) (s : State) : State :=
  { s with monitor := { s.monitor with channels := s.monitor.channels.set r x } }

/-- Write record h of the Shelf Table. -/
def State.setShelf (h : ShelfNo) (x : Shelf) (s : State) : State :=
  { s with engine := { s.engine with shelves := s.engine.shelves.set h x } }

/-- Set the pending flag of the Selection Engine (R108). -/
def State.leavePassPending (s : State) : State := { s with engine := { s.engine with passPending := true } }

/-! ## Posting reports -/

/-- What a report concerns (R144). -/
inductive Subject where
  | reference (r : RefNo)
  | shelf (h : ShelfNo)
  | none
deriving DecidableEq, Repr

/-- The subject of a report (R144). -/
def Report.subject : Report → Subject
  | .refFailing r | .refFailed r _ | .refRestoring r | .refAvailable r _ | .refGrade r _ | .refStale r
  | .refFreq r _ => .reference r
  | .cardJoined h _ | .cardRejected h _ | .cardRestart h _ | .cardWithdrawn h | .cardSilent h | .shelfState h _
  | .switchDone h _ | .acquireTimeout h _ | .acquireAbandoned h _ | .lockLost h _ | .lateLock h _
  | .manualDropped h _ | .holdoverAged h => .shelf h
  | .qhSync | .qhLost | .qhRecovered | .qhCheck _ | .qhMisroute _ | .start _ | .evalLimit | .portFrameError
  | .portOverrun | .modeChanged _ => .none

/-- The number of a report's kind (R171). -/
def Report.kindNumber : Report → Nat
  | .refFailing _ => 1
  | .refFailed _ _ => 2
  | .refRestoring _ => 3
  | .refAvailable _ _ => 4
  | .refGrade _ _ => 5
  | .refStale _ => 6
  | .refFreq _ _ => 7
  | .cardJoined _ _ => 8
  | .cardRejected _ _ => 9
  | .cardRestart _ _ => 10
  | .cardWithdrawn _ => 11
  | .cardSilent _ => 12
  | .shelfState _ _ => 13
  | .switchDone _ _ => 14
  | .acquireTimeout _ _ => 15
  | .acquireAbandoned _ _ => 16
  | .lockLost _ _ => 17
  | .lateLock _ _ => 18
  | .manualDropped _ _ => 19
  | .holdoverAged _ => 20
  | .qhSync => 21
  | .qhLost => 22
  | .qhRecovered => 23
  | .qhCheck _ => 24
  | .qhMisroute _ => 25
  | .start _ => 26
  | .evalLimit => 27
  | .portFrameError => 28
  | .portOverrun => 29
  | .modeChanged _ => 30

/-- Whether the report mask of a report's subject lets it through (R145). The masks hold their kinds in the order of
R171, from bit 0 (R169). -/
def State.lets (s : State) (rep : Report) : Bool :=
  match rep.subject with
  | .reference r => (s.ref r).cfg.reportMask.getLsbD (rep.kindNumber - 1)
  | .shelf h => (s.shelf h).cfg.reportMask.getLsbD (rep.kindNumber - 8)
  | .none => true

/-- Judge the attention line (R149). -/
def ReportQueue.judge (q : ReportQueue) (now : Nat) : ReportQueue := { q with attention := q.attentionCondition now }

/-- A counter of 0 to 65,535 rises by one and stays at its top (R56, R148). -/
def bump16 (n : Nat) : Nat := min (n + 1) 65535

/-- Whether a report folds into the newest record (R147, case 1). -/
def ReportQueue.coalesces (q : ReportQueue) (rep : Report) : Bool :=
  match q.records.getLast? with
  | some newest => decide (q.inService < q.records.length) && decide (newest.report = rep) && decide (newest.count < 63)
  | none => false

/-- Fold a report into the newest record (R147, case 1). -/
def foldNewest (now : Nat) : List Record → List Record
  | [] => []
  | [newest] => [{ newest with count := newest.count + 1, last := now }]
  | x :: rest => x :: foldNewest now rest

/-- A report that passed its mask reaches the queue (R147). -/
def ReportQueue.take (q : ReportQueue) (now : Nat) (rep : Report) : ReportQueue :=
  if q.coalesces rep then { q with records := foldNewest now q.records }
  else if q.records.length < 64 then
    ReportQueue.judge { q with records := q.records ++ [⟨rep, now, now, 1⟩] } now
  else { q with lost := bump16 q.lost }

/-- Post a report (R145, R147). -/
def State.post (rep : Report) (s : State) : State :=
  if s.lets rep then { s with queue := s.queue.take s.now rep } else s

/-! ## Changes of grade -/

/-- The references whose effective grade differs between two states, those that are not FEEDs first and then the
FEEDs, each in ascending number (R61, R71, R94; log 16). -/
def State.regraded (before s : State) : List RefNo :=
  let changed := allRefs.filter fun r => decide (before.effectiveGrade r ≠ s.effectiveGrade r)
  (changed.filter fun r => decide ((s.ref r).cfg.kind ≠ .feed)) ++
    changed.filter fun r => decide ((s.ref r).cfg.kind = .feed)

/-- Post a changed grade and leave a pass pending (R69). -/
def State.postGrade (g : Nat) (r : RefNo) (s : State) : State := (s.post (.refGrade r g)).leavePassPending

/-- Hand on every change of effective grade that an event has made (R69, R94). -/
def State.handOnGrades (before s : State) : State :=
  (before.regraded s).foldl (fun t r => t.postGrade (s.effectiveGrade r) r) s

/-- An event step followed by the grades it changes. -/
def State.regrading (f : State → State) (s : State) : State := s.handOnGrades (f s)

/-! ## Shelves -/

/-- Write the admission of a shelf and leave a pass pending (R94). -/
def State.setAdmission (h : ShelfNo) (a : Admission) (s : State) : State :=
  (s.setShelf h { s.shelf h with admission := a }).leavePassPending

/-- Change what a joined shelf holds; a shelf that is not JOINED is left as it is. -/
def State.mapCard (h : ShelfNo) (f : JoinedCard → JoinedCard) (s : State) : State :=
  match (s.shelf h).card with
  | some c => s.setShelf h { s.shelf h with admission := .joined (f c) }
  | none => s

/-- Write the timing state of a joined shelf and leave a pass pending (R94). -/
def State.setTiming (h : ShelfNo) (t : Timing) (s : State) : State :=
  (s.mapCard h fun c => { c with timing := t }).leavePassPending

/-- A new timing state is written and posted as SHELF_STATE (section 5.5). -/
def State.moveShelf (h : ShelfNo) (t : Timing) (s : State) : State :=
  (s.setTiming h t).post (.shelfState h t.name)

/-- The qualify test (R83, R89): the time locked is at least the holdover qualify time. -/
def State.qualified (s : State) (h : ShelfNo) (since : Nat) : Bool :=
  decide ((s.shelf h).cfg.qualifyTime ≤ s.now - since)

/-- A holdover that begins now (R85, R89). -/
def State.newHoldover (s : State) : Holdover := ⟨s.now, false, false⟩

/-- The qualify-test fallback of a shelf LOCKED since a time (R89). -/
def State.qualifyFallback (s : State) (h : ShelfNo) (since : Nat) : Timing :=
  if s.qualified h since then .holdover s.newHoldover else .freeRun

/-- The fallback an acquisition of a given origin goes to (R83, R85). -/
def State.acquireFallback (s : State) : Origin → Timing
  | .locked .holdover _ => .holdover s.newHoldover
  | .locked .freeRun _ => .freeRun
  | .holdover o => .holdover o
  | .freeRun => .freeRun

/-- A LOCKED shelf leaves to its qualify-test fallback and SHELF_STATE is posted (R89). -/
def State.leaveLocked (h : ShelfNo) (s : State) : State :=
  match (s.shelf h).timing with
  | some (.locked _ since) => s.moveShelf h (s.qualifyFallback h since)
  | _ => s

/-- A shelf in ACQUIRE goes to its fallback: a report of the protocol, then SHELF_STATE (R85, R86). -/
def State.leaveAcquire (h : ShelfNo) (rep : RefNo → Report) (s : State) : State :=
  match (s.shelf h).timing with
  | some (.acquire r o _) =>
    ((s.setTiming h (s.acquireFallback o)).post (rep r)).post (.shelfState h (s.acquireFallback o).name)
  | _ => s

/-- A shelf is taken off a reference that fails or is locked out: from LOCKED by R89, from ACQUIRE by R86, and
otherwise nothing (R105, R126). -/
def State.takeOff (h : ShelfNo) (r : RefNo) (s : State) : State :=
  if (s.shelf h).selected = some r then
    if (s.shelf h).acquiring then s.leaveAcquire h (.acquireAbandoned h) else s.leaveLocked h
  else s

/-- What a shelf carries into ACQUIRE from the state it leaves (R83). -/
def State.acquireOrigin (s : State) (h : ShelfNo) : Timing → Origin
  | .locked _ since => .locked (if s.qualified h since then .holdover else .freeRun) (s.tracedGrade h)
  | .holdover o => .holdover o
  | .acquire _ o _ => o
  | .freeRun => .freeRun

/-- A shelf enters ACQUIRE toward r (R83). -/
def State.enterAcquire (h : ShelfNo) (r : RefNo) (s : State) : State :=
  match (s.shelf h).timing with
  | some t => s.moveShelf h (.acquire r (s.acquireOrigin h t) (s.timerIn (s.shelf h).cfg.acquireLimit))
  | none => s

/-- The refusal mark of an entry is set to now plus the refusal period (R91). -/
def State.markEntry (s : State) (period : Nat) (r : RefNo) (e : Candidate) : Candidate :=
  if e.ref = r then
    { e with refusedUntil := capTime (s.now + period), armed := decide (s.now < capTime (s.now + period)) }
  else e

/-- Set the refusal mark of the entry of shelf h that names r (R91). -/
def State.markRefused (h : ShelfNo) (r : RefNo) (s : State) : State :=
  s.setShelf h { s.shelf h with
    candidates := (s.shelf h).candidates.map (s.markEntry (s.shelf h).cfg.refusalPeriod r) }

/-- A switch request is removed: MANUAL_DROPPED for a manual one where the event posts it, nothing for a forced one
(R118). -/
def State.dropRequest (h : ShelfNo) (s : State) : State :=
  match (s.shelf h).request with
  | .none => s
  | .forced _ => (s.mapCard h fun c => { c with request := .none }).leavePassPending
  | .manual r => ((s.mapCard h fun c => { c with request := .none }).leavePassPending).post (.manualDropped h r)

/-- The aged flag is set where holdover-start is present (R90). -/
def Timing.age : Timing → Timing
  | .holdover o => .holdover { o with aged := true, reached := false }
  | .acquire r (.holdover o) t => .acquire r (.holdover { o with aged := true, reached := false }) t
  | t => t

/-- The holdover of a shelf is aged: HOLDOVER_AGED is posted and a pass left pending (R90, R94). -/
def State.ageHoldover (h : ShelfNo) (s : State) : State :=
  ((s.mapCard h fun c => { c with timing := c.timing.age }).leavePassPending).post (.holdoverAged h)

/-! ## Availability of references -/

/-- Write an availability with its timers and leave a pass pending (R21). -/
def State.setAvailability (r : RefNo) (a : Availability) (fail : Option Nat) (restore : Option SecondTimer)
    (s : State) : State :=
  (s.setRun r fun x => { x with availability := a, failTimer := fail, restoreTimer := restore }).leavePassPending

/-- A reference enters AVAILABLE and REF_AVAILABLE is posted (R15, R16, R19). -/
def State.becomeAvailable (r : RefNo) (d : AvailableDetail) (s : State) : State :=
  (s.setAvailability r .available none none).post (.refAvailable r d)

/-- A reference enters FAILED: REF_FAILED is posted and the shelves that follow it are taken off it in ascending
number (R15, R16, R21, R105). -/
def State.enterFailed (r : RefNo) (d : FailDetail) (s : State) : State :=
  allShelves.foldl (fun t h => t.takeOff h r) ((s.setAvailability r .failed none none).post (.refFailed r d))

/-- A defect begins on a reference (R15, R16). -/
def State.defectBegins (r : RefNo) (s : State) : State :=
  match (s.ref r).run.availability with
  | .available =>
    if (s.ref r).cfg.failDelay = 0 then s.enterFailed r .immediate
    else (s.setAvailability r .failing (some (s.time.tickCount + (s.ref r).cfg.failDelay)) none).post (.refFailing r)
  | .restoring => s.enterFailed r .restoring
  | .failing => s
  | .failed => s

/-- A defect ends on a reference (R15, R16). -/
def State.defectEnds (r : RefNo) (s : State) : State :=
  match (s.ref r).run.availability with
  | .failing => s.becomeAvailable r .recovered
  | .failed =>
    if (s.ref r).run.firstQualification then
      (s.setRun r fun x => { x with firstQualification := false }).becomeAvailable r .first
    else if (s.ref r).cfg.restoreDelay = 0 then s.becomeAvailable r .immediate
    else (s.setAvailability r .restoring none (some (s.timerIn (s.ref r).cfg.restoreDelay))).post (.refRestoring r)
  | .available => s
  | .restoring => s

/-- The Reference Unit takes a change of a defect input from the state before it: a beginning, an end, or neither;
an UNUSED reference disregards both (R13, R14). -/
def State.takeDefect (before : State) (r : RefNo) (s : State) : State :=
  if (s.ref r).cfg.kind = .unused then s
  else
    match before.defect r, s.defect r with
    | false, true => s.defectBegins r
    | true, false => s.defectEnds r
    | _, _ => s

/-- Write a channel and hand the change of its results to the Reference Unit (R13). -/
def State.setChanTaking (r : RefNo) (x : Channel) (s : State) : State := s.takeDefect r (s.setChan r x)

/-- Write the card defect flag and hand its change to availability (R65). -/
def State.setCardDefect (r : RefNo) (d : Bool) (s : State) : State :=
  s.takeDefect r (s.setRun r fun x => { x with cardDefect := d })

end Sys2Proof.Machine
end

