-- ==== Sys2Proof/Machine/Availability.lean ====
section
/-!
DEFINITION. The timers of the Reference Unit's availability: FAIL_TIMER_EXPIRY (R15, R17) and RESTORE_TIMER_EXPIRY
(R16, R18).
-/

namespace Sys2Proof.Machine

open Sys2Proof

/-- FAIL_TIMER_EXPIRY: a FAILING reference becomes FAILED with detail TIMER (R15). -/
def execFailTimerExpiry (r : Nat) (s : State) : Result :=
  onRef r fun r => eventIf (s.failTimerDue r) s (State.regrading (State.enterFailed r .timer))

/-- RESTORE_TIMER_EXPIRY: a RESTORING reference becomes AVAILABLE with detail RESTORED (R16). -/
def execRestoreTimerExpiry (r : Nat) (s : State) : Result :=
  onRef r fun r => eventIf (s.restoreTimerDue r) s (State.becomeAvailable r .restored)

end Sys2Proof.Machine
end

