-- ==== Sys2Proof/Machine/Operands.lean ====
section
/-!
DEFINITION. The external formats: fields of message bodies (R169, R170), clamping, status codes and reply frames
(R158, R161, R162), report records (R171), and highway words and check words (R168).
-/

namespace Sys2Proof.Machine

open Sys2Proof

/-! ## Fields of a request body -/

/-- The byte at a place of a body, as a number. -/
def byteAt (body : List Byte) (i : Nat) : Nat := (body.getD i 0).toNat

/-- A two-byte field, most significant byte first (R169). -/
def be16At (body : List Byte) (i : Nat) : Nat := 256 * byteAt body i + byteAt body (i + 1)

/-- A four-byte field, most significant byte first (R169). -/
def be32At (body : List Byte) (i : Nat) : Nat := 65536 * be16At body i + be16At body (i + 2)

/-- A signed four-byte field in two's complement (R169). -/
def signed32At (body : List Byte) (i : Nat) : Int := (BitVec.ofNat 32 (be32At body i)).toInt

/-! ## Fields of a reply body -/

/-- A one-byte field. -/
def put8 (n : Nat) : List Byte := [BitVec.ofNat 8 n]

/-- A two-byte field, most significant byte first. -/
def put16 (n : Nat) : List Byte := [BitVec.ofNat 8 (n / 256), BitVec.ofNat 8 n]

/-- A four-byte field, most significant byte first. -/
def put32 (n : Nat) : List Byte := put16 (n / 65536) ++ put16 n

/-- A signed four-byte field in two's complement. -/
def putSigned32 (x : Int) : List Byte := put32 (BitVec.ofInt 32 x).toNat

/-- A flag byte. -/
def putFlag (b : Bool) : List Byte := put8 (if b then 1 else 0)

/-- A one-byte field that may be absent: FFh (R169). -/
def putOption8 : Option Nat → List Byte
  | some n => put8 n
  | none => put8 255

/-- A flag byte that may be absent: FFh (R169). -/
def putOptionFlag (b : Option Bool) : List Byte := putOption8 (b.map fun x => if x then 1 else 0)

/-- A two-byte field that may be absent: FFFFh (R169). -/
def putOption16 : Option Nat → List Byte
  | some n => put16 n
  | none => put16 65535

/-- A four-byte field that may be absent: FFFFFFFFh (R169). -/
def putOption32 : Option Nat → List Byte
  | some n => put32 n
  | none => put32 4294967295

/-- A signed offset that may be absent: 80000000h (R169). -/
def putOffset : Option Int → List Byte
  | some x => putSigned32 x
  | none => put32 2147483648

/-- A set of shelves, bit s for shelf s (R170). -/
def putShelfSet (hs : List ShelfNo) : List Byte := put32 ((hs.map fun h => 2 ^ h.val).foldl (· + ·) 0)

/-! ## Codes of enumerated values (R168, R169) -/

def RefKind.code : RefKind → Nat
  | .unused => 0
  | .line => 1
  | .ext => 2
  | .sat => 3
  | .feed => 4

/-- The kind a code names. -/
def RefKind.ofCode : Nat → Option RefKind
  | 0 => some .unused
  | 1 => some .line
  | 2 => some .ext
  | 3 => some .sat
  | 4 => some .feed
  | _ => none

def GradeSource.code : GradeSource → Nat
  | .message => 0
  | .fixed => 1
  | .traced => 2

/-- The grade source a request may name: TRACED is refused (R169). -/
def GradeSource.ofCode : Nat → Option GradeSource
  | 0 => some .message
  | 1 => some .fixed
  | _ => none

def PlanName.code : PlanName → Nat
  | .a => 0
  | .b => 1

def PlanName.ofCode : Nat → Option PlanName
  | 0 => some .a
  | 1 => some .b
  | _ => none

def Availability.code : Availability → Nat
  | .available => 0
  | .failing => 1
  | .failed => 2
  | .restoring => 3

def FreqState.code : FreqState → Nat
  | .unmeasured => 0
  | .inRange => 1
  | .outOfRange => 2

def Admission.code : Admission → Nat
  | .vacant => 0
  | .rejected _ => 1
  | .joined _ => 2

def RejectReason.code : RejectReason → Nat
  | .disabled => 1
  | .cardClass => 2

def CardClass.code : CardClass → Nat
  | .a => 1
  | .b => 2
  | .c => 3

def CardClass.ofCode : Nat → Option CardClass
  | 1 => some .a
  | 2 => some .b
  | 3 => some .c
  | _ => none

def TimingState.code : TimingState → Nat
  | .freeRun => 0
  | .acquire => 1
  | .locked => 2
  | .holdover => 3

/-- The timing state named by an acquire origin. -/
def Origin.name : Origin → TimingState
  | .locked _ _ => .locked
  | .holdover _ => .holdover
  | .freeRun => .freeRun

/-- The timing state named by the fallback of an acquisition (R83). -/
def Origin.fallbackName : Origin → TimingState
  | .locked .holdover _ => .holdover
  | .locked .freeRun _ => .freeRun
  | .holdover _ => .holdover
  | .freeRun => .freeRun

/-- The carried grade, present with origin LOCKED (R73). -/
def Origin.carried : Origin → Option Nat
  | .locked _ g => some g
  | .holdover _ => none
  | .freeRun => none

def PulseMode.code : PulseMode → Nat
  | .ignore => 0
  | .realign => 1

def PulseMode.ofCode : Nat → Option PulseMode
  | 0 => some .ignore
  | 1 => some .realign
  | _ => none

def Mode.code : Mode → Nat
  | .normal => 0
  | .maintenance => 1

def Mode.ofCode : Nat → Option Mode
  | 0 => some .normal
  | 1 => some .maintenance
  | _ => none

def ServiceState.code : ServiceState → Nat
  | .closed => 0
  | .opened => 1

/-- A yes or no, or on or off, field (R169). -/
def flagOfCode : Nat → Option Bool
  | 0 => some false
  | 1 => some true
  | _ => none

/-- A switch request in two bytes: none, FORCED or MANUAL, then the reference or FFh (R169). -/
def SwitchRequest.put : SwitchRequest → List Byte
  | .none => put8 0 ++ put8 255
  | .forced r => put8 1 ++ put8 r.val
  | .manual r => put8 2 ++ put8 r.val

/-! ## Clamping -/

/-- Gate length as stored: the greatest allowed value not above the requested one, with 0 stored as 1 (R6). -/
def clampGate (g : Nat) : Nat := if g < 2 then 1 else if g < 4 then 2 else if g < 8 then 4 else 8

/-- A number stored at the nearer limit of its range (R6, R74, R115, R150). -/
def clampNat (lo hi n : Nat) : Nat := max lo (min hi n)

/-- A trim stored at the nearer limit of its range (R34). -/
def clampTrim (t : Int) : Int := max (-Config.trimLimit) (min Config.trimLimit t)

/-! ## Status codes and replies -/

/-- Status codes (R162). -/
inductive Status where
  | ok | badType | badLength | badIndex | badValue | mode | inUse | busy | held | notJoined | notCandidate
  | lockedOut | notUsable | loop | noService
deriving DecidableEq, Repr

def Status.code : Status → Nat
  | .ok => 0
  | .badType => 1
  | .badLength => 2
  | .badIndex => 3
  | .badValue => 4
  | .mode => 5
  | .inUse => 6
  | .busy => 7
  | .held => 8
  | .notJoined => 9
  | .notCandidate => 10
  | .lockedOut => 11
  | .notUsable => 12
  | .loop => 13
  | .noService => 14

/-- What the owning block answers to a request: the state after it, the status, CLAMPED, and the results. -/
structure Answer where
  state : State
  status : Status
  clamped : Bool
  results : List Byte
deriving DecidableEq, Repr

/-- A refused request changes no state, and its flags byte is 0 (R161, R162). -/
def refuse (s : State) (status : Status) (results : List Byte) : Answer := ⟨s, status, false, results⟩

/-- An accepted request. -/
def accept (s : State) (clamped : Bool) (results : List Byte) : Answer := ⟨s, .ok, clamped, results⟩

/-- One byte of the check sums (R158): sum1 and then sum2, modulo 255. -/
def addCheck (sums : Nat × Nat) (b : Byte) : Nat × Nat :=
  ((sums.1 + b.toNat) % 255, (sums.2 + (sums.1 + b.toNat) % 255) % 255)

/-- The two check bytes over bytes taken in order (R158). -/
def checkBytes (bytes : List Byte) : List Byte :=
  put8 (bytes.foldl addCheck (0, 0)).1 ++ put8 (bytes.foldl addCheck (0, 0)).2

/-- The body of a reply: status byte, flags byte, results (R161). The spec does not say which bit of the flags byte is
CLAMPED: bit 0 is a DESIGN CHOICE, unsafe for claims about that byte where CLAMPED is set (log 32). -/
def Answer.body (a : Answer) : List Byte := put8 a.status.code ++ putFlag a.clamped ++ a.results

/-- The bytes from the length byte through the last byte of the body of a reply (R161). -/
def replyCore (f : Frame) (a : Answer) : List Byte :=
  put8 (a.body.length + 2) ++ put8 (f.type.toNat + 128) ++ [f.tag] ++ a.body

/-- A reply frame (R161). -/
def replyFrame (f : Frame) (a : Answer) : List Byte := put8 0xA5 ++ replyCore f a ++ checkBytes (replyCore f a)

/-- The reply to a request with all of it to go, which resets the part at its end where it answers an accepted RESET
(R160, R165). -/
def replyTo (f : Frame) (a : Answer) : Sending := ⟨replyFrame f a, 0, f.type.toNat == 22 && a.status == .ok⟩

/-! ## Report records -/

/-- The subject byte of a report (R171). -/
def Report.subjectNumber (rep : Report) : Option Nat :=
  match rep.subject with
  | .reference r => some r.val
  | .shelf h => some h.val
  | .none => none

/-- The detail byte of a report (R171). -/
def Report.detailNumber : Report → Option Nat
  | .refFailing _ | .refRestoring _ | .refStale _ => none
  | .refFailed _ .immediate => some 1
  | .refFailed _ .timer => some 2
  | .refFailed _ .restoring => some 3
  | .refFailed _ .reconfigured => some 4
  | .refAvailable _ .first => some 1
  | .refAvailable _ .recovered => some 2
  | .refAvailable _ .immediate => some 3
  | .refAvailable _ .restored => some 4
  | .refAvailable _ .cleared => some 5
  | .refGrade _ g => some g
  | .refFreq _ inRange => some (if inRange then 1 else 2)
  | .cardJoined _ cls | .cardRestart _ cls => some cls.code
  | .cardRejected _ reason => some reason.code
  | .cardWithdrawn _ | .cardSilent _ | .holdoverAged _ => none
  | .shelfState _ t => some t.code
  | .switchDone _ r | .acquireTimeout _ r | .acquireAbandoned _ r | .lockLost _ r | .lateLock _ r
  | .manualDropped _ r => some r.val
  | .qhSync | .qhLost | .qhRecovered | .evalLimit | .portFrameError | .portOverrun => none
  | .qhCheck n => some n.val
  | .qhMisroute tag => some tag
  | .start .pin => some 1
  | .start .request => some 2
  | .modeChanged m => some m.code

/-- The 12 bytes of a report record (R171). -/
def Record.put (x : Record) : List Byte :=
  put8 x.report.kindNumber ++ putOption8 x.report.subjectNumber ++ putOption8 x.report.detailNumber
    ++ put32 x.first ++ put32 x.last ++ put8 x.count

/-! ## Highway words -/

/-- A highway word: its mark and its value (R42). -/
structure HighwayWord where
  mark : Bool
  value : WordValue
deriving DecidableEq, Repr

/-- The word carried by the 8 bits of a slot: the first bit is the mark, then the value, most significant bit first
(R168). -/
def wordOf (b : Byte) : HighwayWord := ⟨b.msb, b.setWidth 7⟩

/-- The 8 bits of a word whose value is a number below 128 (R168). -/
def wordBits (mark : Bool) (value : Nat) : Byte := BitVec.ofNat 8 ((if mark then 128 else 0) + value % 128)

/-- The sum of 1 × v1 + 2 × v2 + … from place k on. -/
def weightedSum (k : Nat) : List Nat → Nat
  | [] => 0
  | v :: rest => k * v + weightedSum (k + 1) rest

/-- The check word over the words before it (R168). -/
def blockCheck (values : List Nat) : Nat := weightedSum 1 values % 128

/-- An outgoing block: the first word marked, then the others, and the check word (R137, R140). -/
def outgoingBlock (values : List Nat) : List Byte :=
  (match values with
    | [] => []
    | tag :: rest => wordBits true tag :: rest.map (wordBits false)) ++ [wordBits false (blockCheck values)]

/-- A card's report (R55). -/
inductive CardReport where
  | announce (cls : CardClass)
  | acquiring (r : RefNo)
  | tracking (r : RefNo)
  | free
  | withdraw
deriving DecidableEq, Repr

/-- What a good block delivers (R55). -/
inductive Delivery where
  | status (r : RefNo) (code : Code) (defect : Bool)
  | card (h : ShelfNo) (rep : CardReport)
deriving DecidableEq, Repr

/-- The report named by the kind and argument words of a shelf report block, where it is well formed (R53, R168). -/
def cardReportOf (kind argument : Nat) : Option CardReport :=
  match kind with
  | 1 => (CardClass.ofCode argument).map .announce
  | 2 => if h : argument < 40 then some (.acquiring ⟨argument, h⟩) else none
  | 3 => if h : argument < 40 then some (.tracking ⟨argument, h⟩) else none
  | 4 => some .free
  | 5 => some .withdraw
  | _ => none

/-- The contents of a complete block that is good: reverse tag, check word and contents (R53). -/
def blockContents : List Nat → Option Delivery
  | [tag, reverse, status, check] =>
    if h : tag < 40 then
      if reverse = 127 - tag ∧ check = blockCheck [tag, reverse, status] then
        some (.status ⟨tag, h⟩ ⟨status % 16, Nat.mod_lt _ (by decide)⟩ (decide (status / 16 % 2 = 1)))
      else none
    else none
  | [tag, reverse, kind, argument, check] =>
    if h : 64 ≤ tag ∧ tag < 96 then
      if reverse = 127 - tag ∧ check = blockCheck [tag, reverse, kind, argument] then
        (cardReportOf kind argument).map (.card ⟨tag - 64, by omega⟩)
      else none
    else none
  | _ => none

end Sys2Proof.Machine
end

