-- ==== Sys2Proof/Machine/TimeBase.lean ====
section
/-!
DEFINITION. The Time Base: tick events and second events (R22 to R24), and the passing of one measurement tick, which
is what a step does on an empty queue (log 3).
-/

namespace Sys2Proof.Machine

open Sys2Proof

/-! ## TICK_EVENT and SECOND_EVENT -/

/-- A tick event: the count toward the next one starts again, the tick count rises, and the tenth is also a second
event, which is left due (R22, R23). -/
def TimeBase.tick (t : TimeBase) : TimeBase :=
  { t with subTicks := 0, tickCount := t.tickCount + 1, secondDue := (t.tickCount + 1) % 10 == 0 }

/-- Office time rises by one and stays at its top value (R23). -/
def TimeBase.second (t : TimeBase) : TimeBase := { t with secondDue := false, officeTime := capTime (t.officeTime + 1) }

/-- The second event at a given office time reaches a timer (R24). -/
def SecondTimer.reach (now : Nat) (t : SecondTimer) : SecondTimer :=
  { t with reached := t.reached || decide (t.expiry ≤ now) }

/-- The second event reaches the aging of a holdover (R24, R90). -/
def Holdover.reach (c : ShelfConfig) (now : Nat) (o : Holdover) : Holdover :=
  { o with reached := o.reached ||
      (decide (c.holdoverLimit ≠ 0) && !o.aged && decide (c.agingTime o ≤ now)) }

/-- The second event reaches the timers of a timing state: the acquire expiry and the aging. -/
def Timing.reach (c : ShelfConfig) (now : Nat) : Timing → Timing
  | .freeRun => .freeRun
  | .acquire r (.holdover o) t => .acquire r (.holdover (o.reach c now)) (t.reach now)
  | .acquire r o t => .acquire r o (t.reach now)
  | .locked r since => .locked r since
  | .holdover o => .holdover (o.reach c now)

/-- The second event reaches the timers of a joined shelf. -/
def Admission.reach (c : ShelfConfig) (now : Nat) : Admission → Admission
  | .vacant => .vacant
  | .rejected reason => .rejected reason
  | .joined card => .joined { card with timing := card.timing.reach c now }

/-- The second event reaches the timers of a shelf. -/
def Shelf.reach (now : Nat) (x : Shelf) : Shelf :=
  { x with silence := x.silence.map (SecondTimer.reach now), admission := x.admission.reach x.cfg now }

/-- The second event reaches the timers of a reference. -/
def RefRecord.reach (now : Nat) (x : RefRecord) : RefRecord :=
  { x with run := { x.run with
      restoreTimer := x.run.restoreTimer.map (SecondTimer.reach now)
      messageAge := x.run.messageAge.map (SecondTimer.reach now) } }

/-- Every record of a table changed alike. -/
def mapTable (f : α → α) (v : Vector α n) : Vector α n := Vector.ofFn fun i : Fin n => f v[i]

/-- The second event reaches every timer counted in seconds (R24). -/
def State.reachTimers (s : State) : State :=
  { s with
    refs := { s.refs with records := mapTable (RefRecord.reach s.now) s.refs.records }
    engine := { s.engine with shelves := mapTable (Shelf.reach s.now) s.engine.shelves } }

/-- A second event: office time, then the timers it reaches, then the age test of the attention line (R23, R24,
R149). -/
def State.secondStep (s : State) : State :=
  let t := { s with time := s.time.second }.reachTimers
  { t with queue := t.queue.judge t.now }

/-- TICK_EVENT (R22). -/
def execTickEvent (s : State) : Result := eventIf s.tickEventDue s fun s => { s with time := s.time.tick }

/-- SECOND_EVENT (R22, R23). -/
def execSecondEvent (s : State) : Result := eventIf s.time.secondDue s State.secondStep

/-! ## One measurement tick -/

/-- One measurement tick of a channel: the sample of the tick that ends is the last pin sample of the next, whose own
reads low until an EDGE, and the edge watch while PRESENT and the tick count of a gate in progress rise (R25, R28, R30;
logs 6 and 33). -/
def Channel.afterTick (c : Channel) : Channel :=
  { c with
    pinHigh := c.pinNow
    pinNow := false
    sampleClosed := false
    edgeWatch := if c.present then c.edgeWatch + 1 else c.edgeWatch
    gate := c.gate.map fun g => { g with ticks := g.ticks + 1 } }

/-- The bit of an outgoing frame being sent at a number of ticks after the frame start, with the 384 bits spaced
evenly over the 2,500 ticks (R134, log 9). -/
def frameBit (ticks : Nat) : Nat := min Config.bitsPerFrame (1 + ticks * Config.bitsPerFrame / Config.ticksPerFrame)

/-- The bit of an outgoing frame being sent after one more tick (R134); before the first frame none is sent. -/
def DhTransmitter.nextPosition (d : DhTransmitter) : Nat :=
  if d.frame.isSome then frameBit (d.ticks + 1) else d.position

/-- A slot when its frame reaches a bit: from the slot's first bit on it carries the next word of its block in progress,
and the block is absent once its last word is sent (R136; log 10). -/
def DhSlot.atBit (first bit : Nat) (x : DhSlot) : DhSlot :=
  match x.block, x.word with
  | some b, none => if first ≤ bit then ⟨some { b with sent := b.sent + 1 }, some (b.words.getD b.sent 0)⟩ else x
  | some b, some w => if b.words.length ≤ b.sent ∧ first + 8 ≤ bit then ⟨none, some w⟩ else x
  | none, _ => x

/-- The first bit of a slot, 8n + 1 (R134). -/
def slotFirstBit (n : SlotNo) : Nat := 8 * n.val + 1

/-- One measurement tick of the Distribution Highway Transmitter (R134, R136). -/
def DhTransmitter.afterTick (d : DhTransmitter) : DhTransmitter :=
  { d with
    ticks := d.ticks + 1
    position := d.nextPosition
    slots := Vector.ofFn fun n : SlotNo => d.slots[n].atBit (slotFirstBit n) d.nextPosition }

/-- One measurement tick of a reply being sent: the byte being sent is out once its time has passed (R154, R155; log
12). -/
def Sending.afterTick (x : Sending) : Sending :=
  if Config.byteTime ≤ x.elapsed + Config.byteTimePerTick then
    { x with bytes := x.bytes.tail, elapsed := x.elapsed + Config.byteTimePerTick - Config.byteTime }
  else { x with elapsed := x.elapsed + Config.byteTimePerTick }

/-- One measurement tick of every count that the part keeps on the oscillator (R22, R28, R30, R46, R134, R155, R157). -/
def State.afterTick (s : State) : State :=
  { s with
    time := { s.time with subTicks := s.time.subTicks + 1 }
    monitor := { s.monitor with channels := mapTable Channel.afterTick s.monitor.channels }
    qh := { s.qh with framing := s.qh.framing.map fun f => { f with watch := f.watch + 1 } }
    dh := s.dh.afterTick
    port := { s.port with
      transmit := s.port.transmit.map Sending.afterTick
      byteWatch := if s.port.receive = .hunt then s.port.byteWatch else s.port.byteWatch + 1 } }

/-- The edge watch of some channel has reached its limit at this tick, whose sample is not yet in (R28). -/
def State.watchesFull (s : State) : Bool := allRefs.any fun r => (s.chan r).watchFull

/-- The sample of the tick is in, on a channel whose edge watch has reached its limit: it gave no edge (R28; log
33). -/
def Channel.closeWatch (c : Channel) : Channel := if c.watchFull then { c with sampleClosed := true } else c

/-- The sample of the tick is in, on every channel whose edge watch has reached its limit (R28; log 33). -/
def State.closeWatches (s : State) : State :=
  { s with monitor := { s.monitor with channels := mapTable Channel.closeWatch s.monitor.channels } }

/-- With no command waiting one measurement tick passes. The tick waits while a counted event is due, the samples of a
tick at which an edge watch has reached its limit are closed first, and no tick passes while the reset pin is asserted
(R28, R166; logs 3 and 33). -/
def State.idle (s : State) : State :=
  if s.resetHeld then s
  else if s.watchesFull then s.closeWatches
  else if s.timeEventDue then s
  else s.afterTick

end Sys2Proof.Machine
end

