-- ==== Sys2Proof/Machine/Distribution.lean ====
section
/-!
DEFINITION. The Distribution Highway Transmitter: DH_FRAME_START (R134 to R136), COMMAND_BLOCK_START (R137, R138) and
QUALITY_BLOCK_START (R139 to R141).
-/

namespace Sys2Proof.Machine

open Sys2Proof

/-! ## Frames -/

/-- A slot at the start of a frame sent with the enable on: it has no word yet, and a block whose last word the frame
before sent is absent (R136; log 10). -/
def DhSlot.nextFrame (x : DhSlot) : DhSlot :=
  match x.block with
  | some b => ⟨if b.sent < b.words.length then some b else none, none⟩
  | none => ⟨none, none⟩

/-- A slot at the start of a frame sent with the enable off: its block is dropped unfinished and it carries an
all-zero word (R135). -/
def DhSlot.silent : DhSlot := ⟨none, some 0⟩

/-- A frame starts at its bit 1, the first bit of slot 0, under the transmit enable as it stands (R134, R135). -/
def DhTransmitter.startFrame (d : DhTransmitter) : DhTransmitter :=
  { d with
    ticks := 0
    position := 1
    frame := some d.enable
    slots := Vector.ofFn fun n : SlotNo =>
      if d.enable then d.slots[n].nextFrame.atBit (slotFirstBit n) 1 else DhSlot.silent }

/-! ## The lines driven toward the cards

The bit clock runs in every frame (R135) and its edges are signal-level; the other two lines follow from the state. -/

/-- The frame pulse line: a pulse on bit 1 of a frame started with the enable on, the first after a reset among them,
and none in a silent frame (R134, R135). -/
def DhTransmitter.framePulse (d : DhTransmitter) : Bool := d.frame == some true && d.position == 1

/-- The data line: the bit being sent of the word of its slot, the slot's first bit the most significant one (R134,
R168). A slot whose block start is due has no word yet, and no tick passes before it has one (log 3). While no frame is
sent, before the first frame after a reset and while the reset pin is asserted, the spec does not give the level of the
line: low is a DESIGN CHOICE, unsafe for claims about the line there (log 35). -/
def DhTransmitter.dataBit (d : DhTransmitter) : Bool :=
  match d.slots[Fin.ofNat 48 ((d.position - 1) / 8)].word with
  | some w => w.getMsbD ((d.position - 1) % 8)
  | none => false

/-- DH_FRAME_START, every 2,500 measurement ticks (R134, R135). -/
def execDhFrameStart (s : State) : Result :=
  eventIf s.dhFrameDue s fun s => { s with dh := s.dh.startFrame }

/-- Write a slot of the Distribution Highway. -/
def State.setDhSlot (n : SlotNo) (x : DhSlot) (s : State) : State :=
  { s with dh := { s.dh with slots := s.dh.slots.set n x } }

/-- A block starts in a slot: its first word is sent in this same frame (R136). -/
def State.startBlock (n : SlotNo) (words : List Byte) (s : State) : State :=
  s.setDhSlot n ⟨some ⟨words, 1⟩, words.head?⟩

/-! ## Command blocks -/

/-- The command word and argument word of a shelf's situation (R138, codes of R168). -/
def Shelf.command (x : Shelf) : Nat × Nat :=
  match x.admission with
  | .vacant => (1, 0)
  | .rejected reason => (2, reason.code)
  | .joined c =>
    match c.timing with
    | .acquire r _ _ => (3, r.val)
    | .locked r _ => (3, r.val)
    | .freeRun => (4, 0)
    | .holdover _ => (4, 0)

/-- The five words of the command block of shelf h (R137). -/
def State.commandBlock (s : State) (h : ShelfNo) : List Byte :=
  outgoingBlock [64 + h.val, 63 - h.val, (s.shelf h).command.1, (s.shelf h).command.2]

/-- The highway slot of a shelf's commands (R136). -/
def commandSlot (h : ShelfNo) : SlotNo := ⟨h.val, by omega⟩

/-- COMMAND_BLOCK_START (R137). -/
def execCommandBlockStart (slot : Nat) (s : State) : Result :=
  if g : slot < 32 then
    eventIf (s.blockStartDue (commandSlot ⟨slot, g⟩)) s fun s =>
      s.startBlock (commandSlot ⟨slot, g⟩) (s.commandBlock ⟨slot, g⟩)
  else .fault .noSuchSlot

/-! ## Quality blocks -/

/-- The quality code advertised for LINE reference r (R140, R141). A LINE reference has a home shelf by R7; without
one the advertised grade is 15 (log 17). -/
def State.advertisedCode (s : State) (r : RefNo) : Code :=
  (s.plan (s.ref r).cfg.codePlan).send[sendIndex
    (match (s.ref r).cfg.homeShelf with
      | some h => s.advertisedGrade r h
      | none => 15)]

/-- The four words of the outgoing quality block of LINE reference r (R140). -/
def State.qualityBlock (s : State) (r : RefNo) : List Byte :=
  outgoingBlock [r.val, 127 - r.val, (s.advertisedCode r).val]

/-- The highway slot 32 + j (R139). -/
def qualitySlot (j : Fin 16) : SlotNo := ⟨32 + j.val, by omega⟩

/-- The rotation position of a quality slot takes a subject's number (R139). -/
def State.setRotation (j : Fin 16) (r : RefNo) (s : State) : State :=
  { s with dh := { s.dh with rotation := s.dh.rotation.set j (some r) } }

/-- A block start in quality slot 32 + j: the next subject's block, or an idle word for an empty group (R139). -/
def State.startQuality (j : Fin 16) (s : State) : State :=
  match s.qualitySubject j with
  | some r => (s.startBlock (qualitySlot j) (s.qualityBlock r)).setRotation j r
  | none => s.setDhSlot (qualitySlot j) ⟨none, some 0⟩

/-- QUALITY_BLOCK_START (R139, R140). -/
def execQualityBlockStart (slot : Nat) (s : State) : Result :=
  if g : 32 ≤ slot ∧ slot < 48 then
    eventIf (s.blockStartDue (qualitySlot ⟨slot - 32, by omega⟩)) s (State.startQuality ⟨slot - 32, by omega⟩)
  else .fault .noSuchSlot

end Sys2Proof.Machine
end

