-- ==== Sys2Proof/Machine/Frequency.lean ====
section
/-!
DEFINITION. The Frequency Monitor: edges, loss of signal and gates (R27 to R30), the offset arithmetic (R31 to R33),
the filter (R35, R36) and the qualification (R37).
-/

namespace Sys2Proof.Machine

open Sys2Proof

/-! ## The arithmetic of a gate -/

/-- A value clamped to ±400,000 with its sign kept (R32, R33). -/
def clampOffset (x : Int) : Int := max (-Config.offsetLimit) (min Config.offsetLimit x)

/-- The magnitude of a value exceeds 400,000 (R32, R33). -/
def beyondOffset (x : Int) : Bool := decide (Config.offsetLimit < x.natAbs)

/-- raw = (E − M) × (200 / g) with E = 20,000,000 × g (R31). -/
def rawOffset (g ticks : Nat) : Int := ((20000000 * g : Nat) - (ticks : Int)) * (200 / g : Nat)

/-- d / 2^k rounded to the nearest integer, halves away from zero (R36). -/
def filterStep (d : Int) (k : Nat) : Int := d.sign * ((2 * d.natAbs + 2 ^ k) / 2 ^ (k + 1) : Nat)

/-- The new filtered offset: seeded from UNMEASURED, with an empty filter or by a saturated gate, and otherwise
stepped (R35, R36). -/
def newFiltered (c : Channel) (saturated : Bool) (adjusted : Int) (k : Nat) : Int :=
  match c.freq, saturated, c.filtered with
  | .inRange, false, some f => f + filterStep (adjusted - f) k
  | .outOfRange, false, some f => f + filterStep (adjusted - f) k
  | _, _, _ => adjusted

/-- The qualification of a gate, by the first line of the table that applies (R37). -/
def qualify (before : FreqState) (saturated : Bool) (f : Int) (limit hysteresis : Nat) : FreqState :=
  if saturated then .outOfRange
  else
    match before with
    | .outOfRange => if (f.natAbs : Int) ≤ (limit : Int) - hysteresis then .inRange else .outOfRange
    | .unmeasured => if f.natAbs ≤ limit then .inRange else .outOfRange
    | .inRange => if f.natAbs ≤ limit then .inRange else .outOfRange

/-- The channel after a gate of a measured count completes at its ending edge, which starts the next gate (R30 to
R37). -/
def Channel.complete (cfg : RefConfig) (trim : Int) (ticks : Nat) (c : Channel) : Channel :=
  let unclamped := rawOffset cfg.gateLength ticks
  let raw := clampOffset unclamped
  let saturated := beyondOffset unclamped || beyondOffset (raw + trim)
  let f := newFiltered c saturated (clampOffset (raw + trim)) cfg.filterShift
  { c with
    edgeWatch := 0
    gate := some ⟨0, 0⟩
    lastRaw := some raw
    saturated := saturated
    filtered := some f
    freq := qualify c.freq saturated f cfg.pullLimit cfg.hysteresis }

/-! ## EDGE -/

/-- The signal returns and a gate starts at this edge (R29). -/
def Channel.signalReturn (c : Channel) : Channel :=
  { c with present := true, edgeWatch := 0, gate := some ⟨0, 0⟩ }

/-- An edge inside a gate: the edge watch restarts and the edge count rises (R27, R30). -/
def Channel.countEdge (c : Channel) : Channel :=
  { c with edgeWatch := 0, gate := c.gate.map fun g => { g with edges := g.edges + 1 } }

/-- The measured count of the gate whose ending edge this edge is (R30). -/
def Channel.endingCount (cfg : RefConfig) (c : Channel) : Option Nat :=
  match c.gate with
  | some g => if 8000 * cfg.gateLength ≤ g.edges + 1 then some g.ticks else none
  | none => none

/-- REF_FREQ is posted when a gate changes the frequency state (R38). -/
def State.postFreq (r : RefNo) (before after : FreqState) (s : State) : State :=
  if before = after then s else s.post (.refFreq r (after == .inRange))

/-- A gate of channel r completes: REF_FREQ, then the availability and its shelves (R30, R38, R39). -/
def State.completeGate (r : RefNo) (ticks : Nat) (s : State) : State :=
  let c := (s.chan r).complete (s.ref r).cfg s.monitor.trim ticks
  s.takeDefect r ((s.setChan r c).postFreq r (s.chan r).freq c.freq)

/-- What an edge on pin r does in its channel (R27 to R30). -/
def State.takeEdge (r : RefNo) (s : State) : State :=
  if (s.chan r).present then
    match (s.chan r).endingCount (s.ref r).cfg with
    | some ticks => s.completeGate r ticks
    | none => s.setChanTaking r (s.chan r).countEdge
  else s.setChanTaking r (s.chan r).signalReturn

/-- Loss of signal: the gate is discarded and the filter emptied; the last raw offset and the saturation flag stay
(R28, R41). -/
def Channel.lose (c : Channel) : Channel :=
  { c with
    present := false
    edgeWatch := 0
    gate := none
    filtered := none
    freq := .unmeasured }

/-- The event of the loss of signal on channel r (R28). -/
def State.loseSignal (r : RefNo) : State → State := State.regrading fun s => s.setChanTaking r (s.chan r).lose

/-- Pin r is sampled high at this tick (R25, R27). -/
def State.samplePin (r : RefNo) (s : State) : State := s.setChan r { s.chan r with pinNow := true }

/-- The event of an edge on pin r (R27 to R30). -/
def State.edgeEvent (r : RefNo) (s : State) : State := State.regrading (State.takeEdge r) (s.samplePin r)

/-- Pin r can still be sampled high at this tick: it has not been, and its sample of the tick is not in (R27, R28; logs
6 and 33). -/
def Channel.sampleOpen (c : Channel) : Bool := !c.pinNow && !c.sampleClosed

/-- EDGE: the pin is sampled high at this tick (log 6). It is an edge where the pin was sampled low at the tick before;
after a high sample it is none, and only the sample is kept. A pin is sampled once at a tick, so a channel sees at most
one edge there (R27), and none once a tick at the limit of the edge watch has been sampled low (R28; log 33). -/
def execEdge (r : Nat) (s : State) : Result :=
  onRef r fun r => eventIf (s.chan r).sampleOpen s
    (if (s.chan r).pinHigh then State.samplePin r else State.edgeEvent r)

/-! ## SIGNAL_LOST -/

/-- SIGNAL_LOST (R28). -/
def execSignalLost (r : Nat) (s : State) : Result := onRef r fun r => eventIf (s.signalLossDue r) s (State.loseSignal r)

/-! ## Restart -/

/-- A channel restarted by CONFIGURE REFERENCE: the values after reset but for the pin's samples (R10, R25). -/
def Channel.restart (c : Channel) : Channel :=
  { Channel.initial with pinHigh := c.pinHigh, pinNow := c.pinNow, sampleClosed := c.sampleClosed }

end Sys2Proof.Machine
end

