-- ==== Sys2Proof/Machine/Grades.lean ====
section
/-!
DEFINITION. Quality codes: status block delivery (R63), persistence (R64), message age and stale expiry (R66), and
grade overrides cleared with the mode (R71).
-/

namespace Sys2Proof.Machine

open Sys2Proof

/-- The persistence filter takes a quality code, by the first line of the table that applies (R64). -/
def RefRunning.persist (n : Nat) (c : Code) (x : RefRunning) : RefRunning :=
  if x.adopted = some c then { x with candidate := none, candidateCount := 0 }
  else if x.candidate = some c then
    if n ≤ x.candidateCount + 1 then { x with adopted := some c, candidate := none, candidateCount := 0 }
    else { x with candidateCount := x.candidateCount + 1 }
  else if n = 1 then { x with adopted := some c, candidate := none, candidateCount := 0 }
  else { x with candidate := some c, candidateCount := 1 }

/-- Step 1 of a delivery: the message age is renewed (R63, R66). -/
def State.renewAge (r : RefNo) (s : State) : State :=
  s.setRun r fun x => { x with messageAge := some (s.timerIn (s.ref r).cfg.messageAgeLimit) }

/-- Step 3 of a delivery: with grade source MESSAGE the code goes through the persistence filter (R63). -/
def State.takeCode (r : RefNo) (c : Code) (s : State) : State :=
  if (s.ref r).cfg.gradeSource = .message then s.setRun r (RefRunning.persist s.refs.persistence c) else s

/-- A status block for ref r is delivered, each step with its full effect before the next (R63). -/
def State.deliverStatus (r : RefNo) (c : Code) (defect : Bool) (s : State) : State :=
  State.regrading (State.takeCode r c) (State.regrading (State.setCardDefect r defect) (s.renewAge r))

/-- Stale expiry of ref r, steps 1 to 4 (R66). -/
def State.goStale (r : RefNo) (s : State) : State :=
  ((s.setRun r fun x =>
      { x with messageAge := none, adopted := none, candidate := none, candidateCount := 0 }).post
    (.refStale r)).setCardDefect r false

/-- MESSAGE_AGE_EXPIRY (R66). -/
def execMessageAgeExpiry (r : Nat) (s : State) : Result :=
  onRef r fun r => eventIf (s.messageAgeDue r) s (State.regrading (State.goStale r))

/-- Every grade override becomes absent (R71). -/
def State.clearOverrides (s : State) : State :=
  { s with refs := { s.refs with
      records := Vector.ofFn fun r : RefNo => { s.ref r with run := { (s.ref r).run with override := none } } } }

end Sys2Proof.Machine
end

