-- ==== Sys2Proof/Machine/Port.lean ====
section
/-!
DEFINITION. The Message Port: receiving bytes and frames (R155 to R159), taking a request (R160, R162), the end of a
reply (R160, R165) and the resets (R165, R166).
-/

namespace Sys2Proof.Machine

open Sys2Proof

/-! ## Bytes -/

/-- The receiver returns to HUNT and the byte watch stops (R155 to R158). -/
def State.huntAgain (s : State) : State := { s with port := { s.port with receive := .hunt, byteWatch := 0 } }

/-- A byte continues the frame in assembly: the new receive state, and the byte watch restarts (R156, R157). -/
def State.receiveIn (x : Receive) (s : State) : State := { s with port := { s.port with receive := x, byteWatch := 0 } }

/-- The sums over a byte (R158). -/
def Assembly.add (a : Assembly) (b : Byte) : Assembly :=
  { a with
    bytes := a.bytes ++ [b]
    sum1 := (addCheck (a.sum1, a.sum2) b).1
    sum2 := (addCheck (a.sum1, a.sum2) b).2 }

/-- A frame opened by its length byte, from which the sums start (R156). -/
def Assembly.start (b : Byte) : Assembly := ⟨b.toNat, [], (addCheck (0, 0) b).1, (addCheck (0, 0) b).2⟩

/-- The request frame of the bytes held: type, tag, body (R156). -/
def Assembly.frame (a : Assembly) : Frame := ⟨a.bytes.getD 0 0, a.bytes.getD 1 0, a.bytes.drop 2⟩

/-- A good frame goes to the request buffer, or is lost to overrun (R159). -/
def State.bufferFrame (f : Frame) (s : State) : State :=
  if s.port.buffer.length < 2 then { s with port := { s.port with buffer := s.port.buffer ++ [f] } }
  else s.post .portOverrun

/-- A frame completes with its two check bytes (R158). -/
def State.frameComplete (a : Assembly) (first second : Byte) (s : State) : State :=
  if first.toNat = a.sum1 ∧ second.toNat = a.sum2 then s.huntAgain.bufferFrame a.frame
  else s.huntAgain.post .portFrameError

/-- A byte without a framing fault (R156). -/
def State.takeByte (b : Byte) (s : State) : State :=
  match s.port.receive with
  | .hunt => if b = 0xA5 then s.receiveIn .length else s
  | .length => if 2 ≤ b.toNat ∧ b.toNat ≤ 250 then s.receiveIn (.body (.start b)) else s.huntAgain
  | .body a => s.receiveIn (if a.length ≤ a.bytes.length + 1 then .check1 (a.add b) else .body (a.add b))
  | .check1 a => s.receiveIn (.check2 a b)
  | .check2 a first => s.frameComplete a first b

/-- A byte whose stop bit is sampled low (R155). -/
def State.takeFaultyByte (s : State) : State :=
  if s.port.receive = .hunt then s else s.huntAgain.post .portFrameError

/-- BYTE_RECEIVED (R155, R156). -/
def execByteReceived (value : Byte) (stopHigh : Bool) (s : State) : Result :=
  event s fun s => if stopHigh then s.takeByte value else s.takeFaultyByte

/-- BYTE_WATCH_EXPIRY: the frame in assembly is abandoned and nothing is posted (R157). -/
def execByteWatchExpiry (s : State) : Result := eventIf s.byteWatchDue s State.huntAgain

/-! ## Taking a request -/

/-- The oldest frame of the buffer, where it can be taken: the transmit state is IDLE (R160). -/
def State.waiting (s : State) : Option Frame := if s.port.transmit.isNone then s.port.buffer.head? else none

/-- The owning block's answer is taken and its reply is SENDING (R160). -/
def State.sendReply (f : Frame) (a : Answer) : State :=
  { a.state with port := { a.state.port with transmit := some (replyTo f a) } }

/-- The taking event of a request: the oldest frame has a type that the command names, and the owning block answers
its body (R160; logs 1, 2). -/
def takeRequest (named : Nat → Bool) (serve : List Byte → State → Answer) (s : State) : Result :=
  event s fun s =>
    match s.waiting with
    | some f => if named f.type.toNat then State.sendReply f (serve f.body s) else s
    | none => s

/-! ## The line driven toward the host -/

/-- The level in each of the ten bit times of a byte on the serial line, from 0: the start bit, the data bits with the
least significant first, the stop bit. The stop bit is high (R155); the start bit low and a set data bit high are
PRESUMED (log 36). -/
def serialLevel (b : Byte) (bit : Nat) : Bool :=
  if bit = 0 then false else if bit ≤ 8 then b.getLsbD (bit - 1) else true

/-- The bit time that the first byte still to go has reached, ten to a byte (R155; log 12). -/
def Sending.bitTime (x : Sending) : Nat := x.elapsed * Config.bitsPerByte / Config.byteTime

/-- The level a reply being sent drives: that of the bit reached in the first byte still to go, and that of the last
stop bit once every byte is out (R155). -/
def Sending.level (x : Sending) : Bool :=
  match x.bytes with
  | b :: _ => serialLevel b x.bitTime
  | [] => true

/-- The transmit line (R155). Its level while no reply is being sent, high, is PRESUMED (log 36). -/
def Port.transmitLine (p : Port) : Bool :=
  match p.transmit with
  | some x => x.level
  | none => true

/-! ## Resets -/

/-- The reset reaches every block in the one event; the sender's queue is not part of the hardware (R166, log 21). -/
def State.resetBy (cause : ResetCause) (s : State) : State := { State.afterReset cause with pending := s.pending }

/-- The end of a reply: the frame in service leaves the buffer and the transmit state is IDLE; the end of a RESET reply
resets the part instead (R160, R165). -/
def State.endReply (s : State) : State :=
  match s.port.transmit with
  | some r =>
    if r.resetAtEnd then s.resetBy .request
    else { s with port := { s.port with buffer := s.port.buffer.tail, transmit := none } }
  | none => s

/-- REPLY_END: the last stop bit of the reply, once every byte of it is out (R160, R165; log 12). -/
def execReplyEnd (s : State) : Result := eventIf s.replyEndDue s State.endReply

/-- RESET_PIN: the release of the reset pin is the reset event (R166; log 13). -/
def execResetPin (s : State) : Result := .next (s.resetBy .pin)

/-- While the pin is asserted every block is at its reset values and the attention line is released (R166; log
14). -/
def State.holdInReset (s : State) : State :=
  { s.resetBy .pin with resetHeld := true, queue := { ReportQueue.initial .pin with attention := false } }

/-- RESET_PIN_ASSERTED (R166). -/
def execResetPinAsserted (s : State) : Result := .next s.holdInReset

end Sys2Proof.Machine
end

