-- ==== Sys2Proof/Machine/Shelves.lean ====
section
/-!
DEFINITION. Timing cards: delivery of card reports (R78 to R80, R84, R87, R88), and the timed events of a shelf, card
silence (R81), acquire expiry (R85), holdover aging (R90) and the running out of refusal marks (R91).
-/

namespace Sys2Proof.Machine

open Sys2Proof

/-- Whether a class is among the accepted classes (R72). -/
def ShelfConfig.accepts (c : ShelfConfig) (cls : CardClass) : Bool := c.classes.getLsbD (cls.code - 1)

/-- A card just joined: FREE_RUN, with no switch request and no proposed reference (R78). -/
def JoinedCard.fresh (cls : CardClass) : JoinedCard := ⟨cls, .freeRun, .none, none⟩

/-- A shelf becomes REJECTED and CARD_REJECTED is posted; a shelf that was JOINED leaves it (R76, R78, R79, R82). The
pending flag is set where the admission changes (R94). -/
def State.reject (h : ShelfNo) (reason : RejectReason) (s : State) : State :=
  let t := s.setShelf h { s.shelf h with admission := .rejected reason }
  (match (s.shelf h).admission with
    | .rejected _ => t
    | _ => t.leavePassPending).post (.cardRejected h reason)

/-- The admission test (R78). -/
def State.admitCard (h : ShelfNo) (cls : CardClass) (s : State) : State :=
  if !(s.shelf h).cfg.enabled then s.reject h .disabled
  else if !(s.shelf h).cfg.accepts cls then s.reject h .cardClass
  else ((s.setAdmission h (.joined (.fresh cls))).post (.cardJoined h cls)).post (.shelfState h .freeRun)

/-- A card restart on a JOINED shelf (R79). -/
def State.restartCard (h : ShelfNo) (cls : CardClass) (s : State) : State :=
  if !(s.shelf h).cfg.accepts cls then s.reject h .cardClass
  else
    let t := (s.mapCard h fun c => { c with cardClass := cls }).post (.cardRestart h cls)
    match (s.shelf h).timing with
    | some .freeRun => t
    | _ => t.moveShelf h .freeRun

/-- A shelf becomes VACANT under a report; a JOINED shelf leaves JOINED (R80, R81, R82). -/
def State.vacate (h : ShelfNo) (rep : Report) (s : State) : State := (s.setAdmission h .vacant).post rep

/-- A loss of lock: the mark, LOCK_LOST, and the qualify-test fallback (R88). -/
def State.loseLock (h : ShelfNo) (r : RefNo) (s : State) : State :=
  ((s.markRefused h r).post (.lockLost h r)).leaveLocked h

/-- A shelf in ACQUIRE locks on its target (R84). -/
def State.lock (h : ShelfNo) (r : RefNo) (s : State) : State :=
  ((s.setTiming h (.locked r s.now)).post (.switchDone h r)).post (.shelfState h .locked)

/-- TRACKING(x) delivered to a JOINED shelf (R84, R87, R88). -/
def State.takeTracking (h : ShelfNo) (x : RefNo) (s : State) : State :=
  match (s.shelf h).timing with
  | some (.acquire r _ _) => if x = r then s.lock h r else s
  | some (.locked r _) => if x = r then s else s.loseLock h r
  | some .freeRun => s.post (.lateLock h x)
  | some (.holdover _) => s.post (.lateLock h x)
  | none => s

/-- FREE delivered to a JOINED shelf (R84, R87, R88). -/
def State.takeFree (h : ShelfNo) (s : State) : State :=
  match (s.shelf h).timing with
  | some (.locked r _) => s.loseLock h r
  | _ => s

/-- A card report is taken according to the admission of the shelf (R78). -/
def State.takeReport (h : ShelfNo) (rep : CardReport) (s : State) : State :=
  match (s.shelf h).admission, rep with
  | .vacant, .announce cls => s.admitCard h cls
  | .rejected _, .announce cls => s.admitCard h cls
  | .joined _, .announce cls => s.restartCard h cls
  | .vacant, .withdraw => s
  | .rejected _, .withdraw => s.vacate h (.cardWithdrawn h)
  | .joined _, .withdraw => s.vacate h (.cardWithdrawn h)
  | .joined _, .tracking x => s.takeTracking h x
  | .joined _, .free => s.takeFree h
  | .joined _, .acquiring _ => s
  | .vacant, .tracking _ => s
  | .vacant, .free => s
  | .vacant, .acquiring _ => s
  | .rejected _, .tracking _ => s
  | .rejected _, .free => s
  | .rejected _, .acquiring _ => s

/-- The card silence of a shelf is renewed (R78). -/
def State.renewSilence (h : ShelfNo) (s : State) : State :=
  s.setShelf h { s.shelf h with silence := some (s.timerIn s.engine.silenceLimit) }

/-- A shelf report block is delivered (R78). -/
def State.deliverReport (h : ShelfNo) (rep : CardReport) (s : State) : State :=
  State.regrading (State.takeReport h rep) (s.renewSilence h)

/-- The card silence expiry of a shelf is reached (R81). -/
def State.goSilent (h : ShelfNo) (s : State) : State :=
  let t := s.setShelf h { s.shelf h with silence := none }
  match (s.shelf h).admission with
  | .vacant => t
  | .rejected _ => t.vacate h (.cardSilent h)
  | .joined _ => t.vacate h (.cardSilent h)

/-- CARD_SILENCE_EXPIRY (R81). -/
def execCardSilenceExpiry (h : Nat) (s : State) : Result :=
  onShelf h fun h => eventIf (s.silenceDue h) s (State.regrading (State.goSilent h))

/-- The acquire expiry of a shelf is reached: the mark, ACQUIRE_TIMEOUT, the fallback (R85). -/
def State.timeOut (h : ShelfNo) (s : State) : State :=
  match (s.shelf h).selected with
  | some r => (s.markRefused h r).leaveAcquire h (.acquireTimeout h)
  | none => s

/-- ACQUIRE_EXPIRY (R85). -/
def execAcquireExpiry (h : Nat) (s : State) : Result :=
  onShelf h fun h => eventIf (s.acquireDue h) s (State.regrading (State.timeOut h))

/-- HOLDOVER_AGING (R90). -/
def execHoldoverAging (h : Nat) (s : State) : Result :=
  onShelf h fun h => eventIf (s.agingDue h) s (State.regrading (State.ageHoldover h))

/-- The run-out of an entry's mark has been taken; the stored time is left as it is (R91). -/
def State.disarmMark (h : ShelfNo) (r : RefNo) (s : State) : State :=
  s.setShelf h { s.shelf h with
    candidates := (s.shelf h).candidates.map fun e => if e.ref = r then { e with armed := false } else e }

/-- REFUSAL_MARK_RUN_OUT: a pass is left pending and nothing is posted (R91). -/
def execRefusalMarkRunOut (h r : Nat) (s : State) : Result :=
  onShelf h fun h => onRef r fun r => eventIf (s.markDue h r) s fun s => (s.disarmMark h r).leavePassPending

end Sys2Proof.Machine
end

