-- ==== Sys2Proof/Machine/QualityHighway.lean ====
section
/-!
DEFINITION. The Quality Highway Receiver: frame alignment (R44 to R50), the slot assemblers (R51, R52), checking,
routing and delivery of blocks (R53 to R55) and the error counters (R56).
-/

namespace Sys2Proof.Machine

open Sys2Proof

/-! ## Alignment -/

/-- A frame starts: bit 1 is the bit last sampled and the frame watch restarts (R45, R48, R49). -/
def Framing.start : Framing := ⟨1, 0, false⟩

/-- The highway becomes LOST (R47). -/
def State.loseHighway (s : State) : State :=
  { s with qh := { s.qh with framing := none, missing := 8, assemblers := Vector.replicate 48 .hunt } }.post .qhLost

/-- A missing pulse is counted; the eighth loses the highway, and otherwise the framing is the one given (R45 to
R47). -/
def State.countMiss (f : Framing) (s : State) : State :=
  if 8 ≤ s.qh.missing + 1 then s.loseHighway
  else { s with qh := { s.qh with framing := some f, missing := s.qh.missing + 1 } }

/-- The expected position is sampled, with or without a pulse (R45). After a run-out its miss has already been
counted (R46). -/
def State.startFrame (pulse : Bool) (f : Framing) (s : State) : State :=
  if pulse then { s with qh := { s.qh with framing := some .start, missing := 0 } }
  else if f.missCounted then { s with qh := { s.qh with framing := some .start } }
  else s.countMiss .start

/-- Every bit of the frame has been sampled: the next one is the expected position of a frame pulse (R44, R46). -/
def Framing.frameOver (f : Framing) : Bool := decide (Config.bitsPerFrame ≤ f.position)

/-- QH_FRAME_START, at the expected position while ALIGNED (R44, R45). -/
def execQhFrameStart (pulse : Bool) (s : State) : Result :=
  event s fun s =>
    match s.qh.framing with
    | some f => if f.frameOver then s.startFrame pulse f else s
    | none => s

/-- FRAME_WATCH_RUN_OUT: a missing pulse, the word being received discarded, and the next bit expected as bit 1
(R46; log 8). -/
def execFrameWatchRunOut (s : State) : Result :=
  eventIf s.frameWatchDue s (State.countMiss ⟨Config.bitsPerFrame, 0, true⟩)

/-- The frame restarts at an unexpected pulse (R49). -/
def State.realign (s : State) : State :=
  { s with qh := { s.qh with framing := some .start, missing := 0, assemblers := Vector.replicate 48 .hunt } }.post
    .qhSync

/-- QH_SYNC: a pulse away from the expected position while ALIGNED, obeyed in REALIGN and disregarded in IGNORE (R49,
R50). No pulse on the expected position is unexpected, the first bit after a run-out among them (R46). -/
def execQhSync (s : State) : Result :=
  event s fun s =>
    match s.qh.framing, s.qh.pulseMode with
    | some f, .realign => if f.frameOver then s else s.realign
    | _, _ => s

/-- The highway becomes ALIGNED (R48). -/
def State.recoverHighway (s : State) : State :=
  { s with qh := { s.qh with framing := some .start, missing := 0 } }.post .qhRecovered

/-- QH_RECOVERED: a pulse while LOST, whatever the receive pulse mode (R48). -/
def execQhRecovered (s : State) : Result :=
  event s fun s =>
    match s.qh.framing with
    | some _ => s
    | none => s.recoverHighway

/-! ## Assemblers -/

/-- Write the assembler of a slot. -/
def State.setAssembler (n : SlotNo) (a : Assembler) (s : State) : State :=
  { s with qh := { s.qh with assemblers := s.qh.assemblers.set n a } }

/-- A check error (R53, R56). -/
def State.countCheckError (n : SlotNo) (s : State) : State :=
  { s with qh := { s.qh with checkErrors := bump16 s.qh.checkErrors } }.post (.qhCheck n)

/-- A mark error (R52, R56). -/
def State.countMarkError (n : SlotNo) (s : State) : State :=
  { s with qh := { s.qh with markErrors := bump16 s.qh.markErrors } }.post (.qhCheck n)

/-- A misroute (R51, R54, R56). -/
def State.countMisroute (tag : Nat) (s : State) : State :=
  { s with qh := { s.qh with misroutes := bump16 s.qh.misroutes } }.post (.qhMisroute tag)

/-- A marked word opens a block by its tag (R51). -/
def State.openBlock (n : SlotNo) (tag : WordValue) (s : State) : State :=
  if tag.toNat < 40 then s.setAssembler n (.collect 4 [tag])
  else if 64 ≤ tag.toNat ∧ tag.toNat < 96 then s.setAssembler n (.collect 5 [tag])
  else (s.setAssembler n .hunt).countMisroute tag.toNat

/-- Whether a block's subject is bound to the slot in which it completed (R54). -/
def State.bound (s : State) (n : SlotNo) : Delivery → Bool
  | .status r _ _ => (s.ref r).cfg.slot == some n
  | .card h _ => (s.shelf h).cfg.reportSlot == some n

/-- The tag of a delivery (R54). -/
def Delivery.tag : Delivery → Nat
  | .status r _ _ => r.val
  | .card h _ => 64 + h.val

/-- The owner takes a delivered block (R55, R63, R78). -/
def State.deliver (d : Delivery) (s : State) : State :=
  match d with
  | .status r c defect => s.deliverStatus r c defect
  | .card h rep => s.deliverReport h rep

/-- What a complete block delivers: good, and bound to its slot (R53, R54). -/
def State.accepted (s : State) (n : SlotNo) (words : List WordValue) : Option Delivery :=
  (blockContents (words.map (·.toNat))).filter (s.bound n)

/-- A complete block is checked and routed (R53, R54). -/
def State.judgeBlock (n : SlotNo) (words : List WordValue) (s : State) : State :=
  match blockContents (words.map (·.toNat)) with
  | none => s.countCheckError n
  | some d => if s.bound n d then s.deliver d else s.countMisroute d.tag

/-- A word is handed to the assembler of its slot (R51, R52). -/
def State.feedWord (n : SlotNo) (w : HighwayWord) (s : State) : State :=
  match s.assembler n, w.mark with
  | .hunt, false => s
  | .hunt, true => s.openBlock n w.value
  | .collect length words, false =>
    if length ≤ words.length + 1 then (s.setAssembler n .hunt).judgeBlock n (words ++ [w.value])
    else s.setAssembler n (.collect length (words ++ [w.value]))
  | .collect _ _, true => (s.countMarkError n).openBlock n w.value

/-- Whether a word handed to the assembler of its slot makes a block be delivered. -/
def State.wordDelivers (n : SlotNo) (w : HighwayWord) (s : State) : Bool :=
  match s.assembler n, w.mark with
  | .collect length words, false => decide (length ≤ words.length + 1) && (s.accepted n (words ++ [w.value])).isSome
  | _, _ => false

/-- The slot whose word is the next to be complete: the one that holds the bit after the last one sampled (R42, R44). -/
def Framing.nextSlot (f : Framing) : Nat := f.position / 8

/-- The bits of a slot's word have been sampled, up to the eighth (R44; log 7). -/
def State.passWord (n : SlotNo) (f : Framing) (s : State) : State :=
  { s with qh := { s.qh with framing := some { f with position := 8 * n.val + 8 } } }

/-- WORD_RECEIVED: the eighth bit of a slot's word, while ALIGNED. The words of a frame complete in the order of their
slots, and none completes between the last bit of a frame and the start of the next (R44, R46; log 7). -/
def execWordReceived (slot : Nat) (bits : Byte) (s : State) : Result :=
  onSlot slot fun n => event s fun s =>
    match s.qh.framing with
    | some f => if !f.frameOver && f.nextSlot == n.val then (s.passWord n f).feedWord n (wordOf bits) else s
    | none => s

end Sys2Proof.Machine
end

