-- ==== Sys2Proof/Machine/RequestsPart.lean ====
section
/-!
DEFINITION. The requests of the highways, the Report Queue and the part as a whole: SET HIGHWAY (R57), READ HIGHWAY
(R58), INJECT BLOCK (R59), SET REPORTING (R150), COLLECT (R151), END SERVICE (R152), SET MODE (R163), READ STATUS
(R164), RESET (R165) and a frame of an unknown type (R162, R167).
-/

namespace Sys2Proof.Machine

open Sys2Proof

/-! ## SET HIGHWAY -/

/-- Both settings are stored (R57). -/
def State.setHighway (mode : PulseMode) (enable : Bool) (s : State) : State :=
  { s with
    qh := { s.qh with pulseMode := mode }
    dh := { s.dh with enable := enable } }

/-- SET HIGHWAY (R57). -/
def serveSetHighway (body : List Byte) (s : State) : Answer :=
  if body.length ≠ 2 then refuse s .badLength []
  else
    match PulseMode.ofCode (byteAt body 0), flagOfCode (byteAt body 1) with
    | some mode, some enable => accept (s.setHighway mode enable) false (put8 mode.code ++ putFlag enable)
    | _, _ => refuse s .badValue []

/-- SET_HIGHWAY: a type 14 request is taken. -/
def execSetHighway (s : State) : Result := takeRequest (· == 14) serveSetHighway s

/-! ## READ HIGHWAY -/

/-- The results of READ HIGHWAY (R58, R170). -/
def State.highwayResults (s : State) : List Byte :=
  putFlag s.qh.framing.isSome ++ put8 s.qh.pulseMode.code ++ put8 s.qh.missing ++ putFlag s.dh.enable
    ++ put16 s.qh.checkErrors ++ put16 s.qh.markErrors ++ put16 s.qh.misroutes

/-- The three error counters are set to 0 (R58). -/
def State.clearCounters (s : State) : State :=
  { s with qh := { s.qh with checkErrors := 0, markErrors := 0, misroutes := 0 } }

/-- READ HIGHWAY (R58). -/
def serveReadHighway (body : List Byte) (s : State) : Answer :=
  if body.length ≠ 0 then refuse s .badLength []
  else accept s.clearCounters false s.highwayResults

/-- READ_HIGHWAY: a type 15 request is taken. -/
def execReadHighway (s : State) : Result := takeRequest (· == 15) serveReadHighway s

/-! ## INJECT BLOCK -/

/-- Words are fed to the assembler of a slot one after another, and the blocks they deliver are counted (R59). -/
def State.feedWords (n : SlotNo) : List Byte → State → State × Nat
  | [], s => (s, 0)
  | b :: rest, s =>
    let r := State.feedWords n rest (s.feedWord n (wordOf b))
    (r.1, r.2 + if s.wordDelivers n (wordOf b) then 1 else 0)

/-- The assembler's state and the number of words held (R59, R169). -/
def Assembler.put : Assembler → List Byte
  | .hunt => put8 0 ++ put8 0
  | .collect _ words => put8 1 ++ put8 words.length

/-- INJECT BLOCK (R59). -/
def serveInjectBlock (body : List Byte) (s : State) : Answer :=
  if body.length ≠ 5 ∧ body.length ≠ 6 then refuse s .badLength []
  else if s.port.mode = .normal then refuse s .mode []
  else if h : byteAt body 0 < 48 then
    accept (s.feedWords ⟨byteAt body 0, h⟩ body.tail).1 false
      (put8 (s.feedWords ⟨byteAt body 0, h⟩ body.tail).2
        ++ ((s.feedWords ⟨byteAt body 0, h⟩ body.tail).1.assembler ⟨byteAt body 0, h⟩).put)
  else refuse s .badIndex []

/-- INJECT_BLOCK: a type 16 request is taken. -/
def execInjectBlock (s : State) : Result := takeRequest (· == 16) serveInjectBlock s

/-! ## SET REPORTING -/

/-- The threshold and the report age limit are stored and the attention line is judged afresh (R150). -/
def State.setReporting (threshold ageLimit : Nat) (s : State) : State :=
  { s with queue := ReportQueue.judge { s.queue with threshold := threshold, ageLimit := ageLimit } s.now }

/-- SET REPORTING (R150). -/
def serveSetReporting (body : List Byte) (s : State) : Answer :=
  if body.length ≠ 2 then refuse s .badLength []
  else
    let threshold := clampNat 1 64 (byteAt body 0)
    let ageLimit := clampNat 0 60 (byteAt body 1)
    accept (s.setReporting threshold ageLimit) (threshold != byteAt body 0 || ageLimit != byteAt body 1)
      (put8 threshold ++ put8 ageLimit)

/-- SET_REPORTING: a type 17 request is taken. -/
def execSetReporting (s : State) : Result := takeRequest (· == 17) serveSetReporting s

/-! ## COLLECT -/

/-- A service opens on the oldest records, at most a number of them (R151). -/
def ReportQueue.openService (most : Nat) (q : ReportQueue) : ReportQueue :=
  { q with service := .opened, inService := min q.records.length most, attention := false }

/-- COLLECT meets the queue as it finds it (R151). -/
def ReportQueue.collect (most : Nat) (q : ReportQueue) : ReportQueue :=
  match q.service, q.records with
  | .closed, _ :: _ => q.openService most
  | .closed, [] => q
  | .opened, _ => q

/-- The results of COLLECT (R151, R171). -/
def ReportQueue.putService (q : ReportQueue) : List Byte :=
  put8 q.service.code ++ put8 q.records.length ++ put16 q.lost ++ put8 (q.records.take q.inService).length
    ++ (q.records.take q.inService).flatMap Record.put

/-- COLLECT (R151). -/
def serveCollect (body : List Byte) (s : State) : Answer :=
  if body.length ≠ 1 then refuse s .badLength []
  else
    let most := clampNat 1 16 (byteAt body 0)
    accept { s with queue := s.queue.collect most } (most != byteAt body 0) (s.queue.collect most).putService

/-- COLLECT: a type 18 request is taken. -/
def execCollect (s : State) : Result := takeRequest (· == 18) serveCollect s

/-! ## END SERVICE -/

/-- The records in service are removed, the tally zeroed, the service closed and the line judged afresh (R152). -/
def ReportQueue.close (now : Nat) (q : ReportQueue) : ReportQueue :=
  ReportQueue.judge
    { q with records := q.records.drop q.inService, lost := 0, service := .closed, inService := 0 } now

/-- END SERVICE (R152). -/
def serveEndService (body : List Byte) (s : State) : Answer :=
  if body.length ≠ 0 then refuse s .badLength []
  else
    match s.queue.service with
    | .closed => refuse s .noService []
    | .opened =>
      accept { s with queue := s.queue.close s.now } false
        (put8 (s.queue.records.take s.queue.inService).length ++ put16 s.queue.lost
          ++ put8 (s.queue.close s.now).records.length)

/-- END_SERVICE: a type 19 request is taken. -/
def execEndService (s : State) : Result := takeRequest (· == 19) serveEndService s

/-! ## SET MODE -/

/-- The operating mode is stored and MODE_CHANGED posted (R163). -/
def State.storeMode (m : Mode) (s : State) : State :=
  { s with port := { s.port with mode := m } }.post (.modeChanged m)

/-- SET MODE's change of mode: from MAINTENANCE to NORMAL every grade override is cleared after MODE_CHANGED (R71,
R163). -/
def State.changeMode (m : Mode) (s : State) : State :=
  if s.port.mode = m then s
  else
    match m with
    | .maintenance => s.storeMode m
    | .normal => State.regrading State.clearOverrides (s.storeMode m)

/-- SET MODE (R163). -/
def serveSetMode (body : List Byte) (s : State) : Answer :=
  if body.length ≠ 1 then refuse s .badLength []
  else
    match Mode.ofCode (byteAt body 0) with
    | some m => accept (s.changeMode m) false (put8 m.code)
    | none => refuse s .badValue []

/-- SET_MODE: a type 20 request is taken. -/
def execSetMode (s : State) : Result := takeRequest (· == 20) serveSetMode s

/-! ## READ STATUS and RESET -/

/-- The results of READ STATUS (R164, R170). -/
def State.statusResults (s : State) : List Byte :=
  put8 s.port.mode.code ++ put32 s.now ++ put8 s.queue.records.length ++ put8 s.queue.service.code
    ++ putFlag s.qh.framing.isSome

/-- READ STATUS (R164). -/
def serveReadStatus (body : List Byte) (s : State) : Answer :=
  if body.length ≠ 0 then refuse s .badLength [] else accept s false s.statusResults

/-- READ_STATUS: a type 21 request is taken. -/
def execReadStatus (s : State) : Result := takeRequest (· == 21) serveReadStatus s

/-- RESET: an OK reply with no results and nothing else; its last stop bit resets the part (R165, replyTo). -/
def serveReset (body : List Byte) (s : State) : Answer :=
  if body.length ≠ 0 then refuse s .badLength [] else accept s false []

/-- RESET: a type 22 request is taken. -/
def execReset (s : State) : Result := takeRequest (· == 22) serveReset s

/-! ## A type outside the catalogue -/

/-- A request type of the catalogue (R167). -/
def knownType (n : Nat) : Bool := decide (1 ≤ n) && decide (n ≤ 22)

/-- A request of a type outside the catalogue is refused with BAD_TYPE (R162, R167). -/
def serveUnknownType (_body : List Byte) (s : State) : Answer := refuse s .badType []

/-- UNKNOWN_REQUEST_TYPE: a frame of a type outside the catalogue is taken. -/
def execUnknownRequestType (s : State) : Result := takeRequest (fun n => !knownType n) serveUnknownType s

end Sys2Proof.Machine
end

