-- ==== Sys2Proof/Machine/RequestsReference.lean ====
section
/-!
DEFINITION. The requests of the Reference Unit and the Frequency Monitor: CONFIGURE REFERENCE (R9 to R11), READ
REFERENCE (R12), CLEAR RESTORE (R19), SET OSCILLATOR TRIM (R34), LOAD and READ CODE PLAN (R61, R62) and SET GRADE
OVERRIDE (R70).
-/

namespace Sys2Proof.Machine

open Sys2Proof

/-! ## CONFIGURE REFERENCE -/

/-- A number field that may be absent lies outside its table: FFh is absent (R169). -/
def outsideOrPresent (n limit : Nat) : Bool := decide (limit ≤ n) && n != 255

/-- A shelf number that may be absent. -/
def optionShelf (n : Nat) : Option ShelfNo := if h : n < 32 then some ⟨n, h⟩ else none

/-- A slot number that may be absent. -/
def optionSlot (n : Nat) : Option SlotNo := if h : n < 48 then some ⟨n, h⟩ else none

/-- Whether the kind byte makes the home shelf required: LINE 1 or FEED 4 (R3, R169). -/
def needsHome (kind : Nat) : Bool := kind == 1 || kind == 4

/-- The index check of CONFIGURE REFERENCE (R9, R169). -/
def configureReferenceBadIndex (body : List Byte) : Bool :=
  decide (40 ≤ byteAt body 0) || (needsHome (byteAt body 1) && outsideOrPresent (byteAt body 2) 32)
    || outsideOrPresent (byteAt body 3) 48

/-- The value check of CONFIGURE REFERENCE (R7, R169). -/
def configureReferenceBadValue (body : List Byte) : Bool :=
  decide (4 < byteAt body 1)
    || (needsHome (byteAt body 1) && byteAt body 2 == 255)
    || (byteAt body 1 != 4 && decide (1 < byteAt body 4))
    || !gradeValid (byteAt body 5) || decide (1 < byteAt body 6) || !gradeValid (byteAt body 7)
    || decide (127 < byteAt body 22)

/-- The pull limit as stored (R6). -/
def storedPullLimit (body : List Byte) : Nat := clampNat 400 200000 (be32At body 10)

/-- The configuration an accepted CONFIGURE REFERENCE stores: clamped as in R6 and completed as in R7. -/
def refConfigOf (body : List Byte) : RefConfig where
  kind := (RefKind.ofCode (byteAt body 1)).getD .unused
  homeShelf := if needsHome (byteAt body 1) then optionShelf (byteAt body 2) else none
  slot := optionSlot (byteAt body 3)
  gradeSource := if byteAt body 1 = 4 then .traced else (GradeSource.ofCode (byteAt body 4)).getD .fixed
  fixedGrade := byteAt body 5
  codePlan := (PlanName.ofCode (byteAt body 6)).getD .a
  staleGrade := byteAt body 7
  gateLength := clampGate (byteAt body 8)
  filterShift := clampNat 0 4 (byteAt body 9)
  pullLimit := storedPullLimit body
  hysteresis := clampNat 0 (storedPullLimit body / 2) (be32At body 14)
  failDelay := clampNat 0 100 (byteAt body 18)
  restoreDelay := clampNat 0 720 (be16At body 19)
  messageAgeLimit := clampNat 1 60 (byteAt body 21)
  reportMask := BitVec.ofNat 7 (byteAt body 22)

/-- A numeric field of CONFIGURE REFERENCE was stored at a limit of its range (R6). -/
def configureReferenceClamped (body : List Byte) : Bool :=
  let c := refConfigOf body
  c.gateLength != byteAt body 8 || c.filterShift != byteAt body 9 || c.pullLimit != be32At body 10
    || c.hysteresis != be32At body 14 || c.failDelay != byteAt body 18 || c.restoreDelay != be16At body 19
    || c.messageAgeLimit != byteAt body 21

/-- The running part restarted; the grade override is not changed (R10). -/
def RefRunning.restart (x : RefRunning) : RefRunning := { RefRunning.initial with override := x.override }

/-- The effect of an accepted CONFIGURE REFERENCE but for the grades (R10, R11). -/
def State.reconfigure (r : RefNo) (cfg : RefConfig) (s : State) : State :=
  let t := ((s.setRef r ⟨cfg, (s.ref r).run.restart⟩).setChan r (s.chan r).restart).leavePassPending
  if (s.ref r).run.availability = .failed then t else t.post (.refFailed r .reconfigured)

/-- CONFIGURE REFERENCE (R9 to R11). -/
def serveConfigureReference (body : List Byte) (s : State) : Answer :=
  if body.length ≠ 23 then refuse s .badLength []
  else if configureReferenceBadIndex body then refuse s .badIndex []
  else if configureReferenceBadValue body then refuse s .badValue []
  else if h : byteAt body 0 < 40 then
    if (s.users ⟨byteAt body 0, h⟩).isEmpty then
      accept (State.regrading (State.reconfigure ⟨byteAt body 0, h⟩ (refConfigOf body)) s)
        (configureReferenceClamped body) []
    else refuse s .inUse []
  else refuse s .badIndex []

/-- CONFIGURE_REFERENCE: a type 1 request is taken. -/
def execConfigureReference (s : State) : Result := takeRequest (· == 1) serveConfigureReference s

/-! ## READ REFERENCE -/

/-- The time still to come before an expiry (R12, R77). Where the expiry is not later than the time read it is a free
value: a timer that has run out and whose event is not yet taken, and a timer counted in seconds that was started at the
top of office time (log 15). -/
def remaining (expiry now : Nat) : Nat := if now < expiry then expiry - now else Config.freeRemaining expiry now

/-- The 22 configuration bytes of a reference (R170). -/
def RefConfig.put (c : RefConfig) : List Byte :=
  put8 c.kind.code ++ putOption8 (c.homeShelf.map (·.val)) ++ putOption8 (c.slot.map (·.val))
    ++ put8 c.gradeSource.code ++ put8 c.fixedGrade ++ put8 c.codePlan.code ++ put8 c.staleGrade
    ++ put8 c.gateLength ++ put8 c.filterShift ++ put32 c.pullLimit ++ put32 c.hysteresis ++ put8 c.failDelay
    ++ put16 c.restoreDelay ++ put8 c.messageAgeLimit ++ put8 c.reportMask.toNat

/-- The remaining time of the timer present: ticks for a fail timer, seconds for a restore timer (R12). -/
def State.remainingTimer (s : State) (r : RefNo) : Option Nat :=
  match (s.ref r).run.failTimer with
  | some n => some (remaining n s.time.tickCount)
  | none => (s.ref r).run.restoreTimer.map fun t => remaining t.expiry s.now

/-- The results of READ REFERENCE (R12, R40, R170). -/
def State.referenceResults (s : State) (r : RefNo) : List Byte :=
  (s.ref r).cfg.put ++ put8 (s.ref r).run.availability.code ++ putFlag (s.ref r).run.firstQualification
    ++ putOption16 (s.remainingTimer r)
    ++ putOption8 ((s.ref r).run.adopted.map (·.val)) ++ putOption8 ((s.ref r).run.candidate.map (·.val))
    ++ put8 (s.ref r).run.candidateCount
    ++ putOption8 ((s.ref r).run.messageAge.map fun t => remaining t.expiry s.now)
    ++ putFlag (s.ref r).run.cardDefect ++ putOption8 (s.ref r).run.override ++ put8 (s.effectiveGrade r)
    ++ putFlag (s.chan r).present ++ putFlag (s.chan r).gate.isSome
    ++ putOffset (s.chan r).lastRaw ++ putOffset (s.chan r).filtered
    ++ put8 (s.chan r).freq.code ++ putFlag (s.chan r).saturated ++ putShelfSet (s.users r)

/-- A request whose one-byte body is a reference number (R12, R19). -/
def serveOneReference (body : List Byte) (s : State) (f : RefNo → Answer) : Answer :=
  if body.length ≠ 1 then refuse s .badLength []
  else if h : byteAt body 0 < 40 then f ⟨byteAt body 0, h⟩
  else refuse s .badIndex []

/-- READ REFERENCE (R12). -/
def serveReadReference (body : List Byte) (s : State) : Answer :=
  serveOneReference body s fun r => accept s false (s.referenceResults r)

/-- READ_REFERENCE: a type 2 request is taken. -/
def execReadReference (s : State) : Result := takeRequest (· == 2) serveReadReference s

/-! ## CLEAR RESTORE -/

/-- A RESTORING reference becomes AVAILABLE with detail CLEARED; any other is left as it is (R19). -/
def State.clearRestoring (r : RefNo) (s : State) : State :=
  if (s.ref r).run.availability = .restoring then s.becomeAvailable r .cleared else s

/-- CLEAR RESTORE (R19). -/
def serveClearRestore (body : List Byte) (s : State) : Answer :=
  serveOneReference body s fun r =>
    accept (s.clearRestoring r) false (put8 ((s.clearRestoring r).ref r).run.availability.code)

/-- CLEAR_RESTORE: a type 3 request is taken. -/
def execClearRestore (s : State) : Result := takeRequest (· == 3) serveClearRestore s

/-! ## SET OSCILLATOR TRIM -/

/-- SET OSCILLATOR TRIM (R34). -/
def serveSetOscillatorTrim (body : List Byte) (s : State) : Answer :=
  if body.length ≠ 4 then refuse s .badLength []
  else
    let trim := clampTrim (signed32At body 0)
    accept { s with monitor := { s.monitor with trim := trim } } (trim != signed32At body 0) (putSigned32 trim)

/-- SET_OSCILLATOR_TRIM: a type 4 request is taken. -/
def execSetOscillatorTrim (s : State) : Result := takeRequest (· == 4) serveSetOscillatorTrim s

/-! ## Code plans -/

/-- The maps a LOAD CODE PLAN carries: plan, 16 receive entries, 13 send entries (R61, R170). -/
def codePlanOf (body : List Byte) : CodePlan where
  receive := Vector.ofFn fun i : Fin 16 => byteAt body (1 + i.val)
  send := Vector.ofFn fun i : Fin 13 => ⟨byteAt body (17 + i.val) % 16, Nat.mod_lt _ (by decide)⟩

/-- The value check of LOAD CODE PLAN (R61). -/
def loadCodePlanBadValue (body : List Byte) : Bool :=
  decide (1 < byteAt body 0)
    || (List.range 16).any (fun i => !gradeValid (byteAt body (1 + i)))
    || (List.range 13).any (fun i => decide (15 < byteAt body (17 + i)))

/-- Both maps of a plan are replaced as a whole (R61). -/
def State.setPlan (p : PlanName) (x : CodePlan) (s : State) : State :=
  match p with
  | .a => { s with refs := { s.refs with planA := x } }
  | .b => { s with refs := { s.refs with planB := x } }

/-- LOAD CODE PLAN (R61). -/
def serveLoadCodePlan (body : List Byte) (s : State) : Answer :=
  if body.length ≠ 30 then refuse s .badLength []
  else if loadCodePlanBadValue body then refuse s .badValue []
  else
    match PlanName.ofCode (byteAt body 0) with
    | some p => accept (State.regrading (State.setPlan p (codePlanOf body)) s) false []
    | none => refuse s .badValue []

/-- LOAD_CODE_PLAN: a type 5 request is taken. -/
def execLoadCodePlan (s : State) : Result := takeRequest (· == 5) serveLoadCodePlan s

/-- The entries of a plan as a reply carries them (R62, R170). -/
def CodePlan.put (p : CodePlan) : List Byte :=
  p.receive.toList.flatMap put8 ++ p.send.toList.flatMap fun c => put8 c.val

/-- READ CODE PLAN (R62). -/
def serveReadCodePlan (body : List Byte) (s : State) : Answer :=
  if body.length ≠ 1 then refuse s .badLength []
  else
    match PlanName.ofCode (byteAt body 0) with
    | some p => accept s false (s.plan p).put
    | none => refuse s .badValue []

/-- READ_CODE_PLAN: a type 6 request is taken. -/
def execReadCodePlan (s : State) : Result := takeRequest (· == 6) serveReadCodePlan s

/-! ## SET GRADE OVERRIDE -/

/-- The override of a reference is written (R70). -/
def State.setOverride (r : RefNo) (g : Option Nat) (s : State) : State :=
  s.setRun r fun x => { x with override := g }

/-- The override a request names: FFh is CLEAR (R169). -/
def overrideOf (n : Nat) : Option Nat := if n = 255 then none else some n

/-- SET GRADE OVERRIDE (R70). -/
def serveSetGradeOverride (body : List Byte) (s : State) : Answer :=
  if body.length ≠ 2 then refuse s .badLength []
  else if s.port.mode = .normal then refuse s .mode []
  else if h : byteAt body 0 < 40 then
    if byteAt body 1 != 255 && !gradeValid (byteAt body 1) then refuse s .badValue []
    else
      let t := State.regrading (State.setOverride ⟨byteAt body 0, h⟩ (overrideOf (byteAt body 1))) s
      accept t false (putOption8 (overrideOf (byteAt body 1)) ++ put8 (t.effectiveGrade ⟨byteAt body 0, h⟩))
  else refuse s .badIndex []

/-- SET_GRADE_OVERRIDE: a type 7 request is taken. -/
def execSetGradeOverride (s : State) : Result := takeRequest (· == 7) serveSetGradeOverride s

end Sys2Proof.Machine
end

