-- ==== Sys2Proof/Machine/RequestsShelf.lean ====
section
/-!
DEFINITION. The requests of the Selection Engine: CONFIGURE SHELF (R74 to R76), READ SHELF (R77), SET SELECTION LIMITS
(R115 to R117), SWITCH (R119, R120), LOCKOUT (R125 to R127) and HOLD (R129).
-/

namespace Sys2Proof.Machine

open Sys2Proof

/-! ## CONFIGURE SHELF -/

/-- The reference bytes of the entries a CONFIGURE SHELF carries (R170). -/
def entryRefs (body : List Byte) : List Nat := (List.range (byteAt body 19)).map fun i => byteAt body (20 + 2 * i)

/-- No number stands twice in a list. -/
def noRepeats : List Nat → Bool
  | [] => true
  | x :: rest => !rest.contains x && noRepeats rest

/-- The index check of CONFIGURE SHELF (R74). -/
def configureShelfBadIndex (body : List Byte) : Bool :=
  decide (32 ≤ byteAt body 0) || outsideOrPresent (byteAt body 3) 48
    || (entryRefs body).any fun n => decide (40 ≤ n)

/-- The value check of CONFIGURE SHELF (R74, R169). -/
def configureShelfBadValue (body : List Byte) : Bool :=
  decide (6 < byteAt body 19) || !noRepeats (entryRefs body)
    || decide (1 < byteAt body 1) || decide (1 < byteAt body 4)
    || decide (7 < byteAt body 2) || decide (8191 < be16At body 17)

/-- The configuration an accepted CONFIGURE SHELF stores, clamped as in R74. -/
def shelfConfigOf (body : List Byte) : ShelfConfig where
  enabled := byteAt body 1 == 1
  classes := BitVec.ofNat 3 (byteAt body 2)
  reportSlot := optionSlot (byteAt body 3)
  revertive := byteAt body 4 == 1
  minimumGrade := clampNat 1 12 (byteAt body 5)
  acquireLimit := clampNat 1 60 (byteAt body 6)
  qualifyTime := clampNat 0 3600 (be16At body 7)
  holdoverGrade := clampNat 1 12 (byteAt body 9)
  freeRunGrade := clampNat 1 12 (byteAt body 10)
  holdoverLimit := clampNat 0 86400 (be32At body 11)
  refusalPeriod := clampNat 10 600 (be16At body 15)
  reportMask := BitVec.ofNat 13 (be16At body 17)

/-- A numeric field of CONFIGURE SHELF was stored at a limit of its range (R74). -/
def configureShelfClamped (body : List Byte) : Bool :=
  let c := shelfConfigOf body
  c.minimumGrade != byteAt body 5 || c.acquireLimit != byteAt body 6 || c.qualifyTime != be16At body 7
    || c.holdoverGrade != byteAt body 9 || c.freeRunGrade != byteAt body 10 || c.holdoverLimit != be32At body 11
    || c.refusalPeriod != be16At body 15

/-- One entry of the new list: it keeps the refusal mark of the old entry for its reference, and takes the lockout
flag of the request, any nonzero value set (R75, R169). -/
def newEntry (old : Shelf) (ref flag : Nat) : Option Candidate :=
  if h : ref < 40 then
    match old.entry ⟨ref, h⟩ with
    | some e => some { e with lockout := flag != 0 }
    | none => some ⟨⟨ref, h⟩, flag != 0, 0, false⟩
  else none

/-- The candidate list an accepted CONFIGURE SHELF stores (R75). -/
def candidatesOf (old : Shelf) (body : List Byte) : List Candidate :=
  (List.range (byteAt body 19)).filterMap fun i =>
    newEntry old (byteAt body (20 + 2 * i)) (byteAt body (21 + 2 * i))

/-- A reference is in the list and not locked out. -/
def Shelf.offers (x : Shelf) (r : RefNo) : Bool := (x.entry r).any fun e => !e.lockout

/-- A standing switch request whose target the list no longer offers is removed (R75, R118). -/
def State.dropUnoffered (h : ShelfNo) (s : State) : State :=
  match (s.shelf h).request with
  | .none => s
  | .forced r => if (s.shelf h).offers r then s else s.dropRequest h
  | .manual r => if (s.shelf h).offers r then s else s.dropRequest h

/-- The aging of a holdover is still to be reached under the limit in force (R75). -/
def Timing.rewait : Timing → Timing
  | .holdover o => .holdover { o with reached := false }
  | .acquire r (.holdover o) t => .acquire r (.holdover { o with reached := false }) t
  | t => t

/-- A change of holdover limit, from the limit before, reaches a holdover that is not aged: it ages now, or waits for
its new time (R75). A new due time past the top of office time is not later than now at no time, and is reached at the
next second event that stands at the top (R24, R90; log 34). -/
def State.resettleAging (h : ShelfNo) (before : Nat) (s : State) : State :=
  match (s.shelf h).timing.bind Timing.heldOver with
  | some o =>
    if o.aged ∨ (s.shelf h).cfg.holdoverLimit = before then s
    else if (s.shelf h).cfg.holdoverLimit ≠ 0 ∧ o.start + (s.shelf h).cfg.holdoverLimit ≤ s.now then s.ageHoldover h
    else s.mapCard h fun c => { c with timing := c.timing.rewait }
  | none => s

/-- The admission and the selection are settled: steps 1 and 2 of R76. -/
def State.settleShelf (h : ShelfNo) (s : State) : State :=
  match (s.shelf h).card with
  | some c =>
    if !(s.shelf h).cfg.enabled then s.reject h .disabled
    else if !(s.shelf h).cfg.accepts c.cardClass then s.reject h .cardClass
    else
      match c.timing with
      | .locked r _ => if (s.shelf h).offers r then s else s.leaveLocked h
      | _ => s
  | none => s

/-- The effect of an accepted CONFIGURE SHELF but for the grades (R75, R76; log 26). -/
def State.reconfigureShelf (h : ShelfNo) (cfg : ShelfConfig) (list : List Candidate) (s : State) : State :=
  ((((s.setShelf h { s.shelf h with cfg := cfg, candidates := list }).dropUnoffered h).resettleAging h
    (s.shelf h).cfg.holdoverLimit).settleShelf h).leavePassPending

/-- CONFIGURE SHELF (R74 to R76). -/
def serveConfigureShelf (body : List Byte) (s : State) : Answer :=
  if body.length < 20 ∨ body.length ≠ 20 + 2 * byteAt body 19 then refuse s .badLength []
  else if configureShelfBadIndex body then refuse s .badIndex []
  else if configureShelfBadValue body then refuse s .badValue []
  else if h : byteAt body 0 < 32 then
    if (s.shelf ⟨byteAt body 0, h⟩).acquiring then refuse s .busy []
    else
      accept
        (State.regrading
          (State.reconfigureShelf ⟨byteAt body 0, h⟩ (shelfConfigOf body)
            (candidatesOf (s.shelf ⟨byteAt body 0, h⟩) body)) s)
        (configureShelfClamped body) []
  else refuse s .badIndex []

/-- CONFIGURE_SHELF: a type 8 request is taken. -/
def execConfigureShelf (s : State) : Result := takeRequest (· == 8) serveConfigureShelf s

/-! ## READ SHELF -/

/-- The 19 + 2n configuration bytes of a shelf (R170). -/
def Shelf.putConfig (x : Shelf) : List Byte :=
  putFlag x.cfg.enabled ++ put8 x.cfg.classes.toNat ++ putOption8 (x.cfg.reportSlot.map (·.val))
    ++ putFlag x.cfg.revertive ++ put8 x.cfg.minimumGrade ++ put8 x.cfg.acquireLimit ++ put16 x.cfg.qualifyTime
    ++ put8 x.cfg.holdoverGrade ++ put8 x.cfg.freeRunGrade ++ put32 x.cfg.holdoverLimit
    ++ put16 x.cfg.refusalPeriod ++ put16 x.cfg.reportMask.toNat ++ put8 x.candidates.length
    ++ x.candidates.flatMap fun e => put8 e.ref.val ++ putFlag e.lockout

/-- The reject reason, present in REJECTED (R73). -/
def Shelf.rejectReason (x : Shelf) : Option RejectReason :=
  match x.admission with
  | .rejected reason => some reason
  | _ => none

/-- The acquire origin, present in ACQUIRE (R73). -/
def Shelf.origin (x : Shelf) : Option Origin :=
  match x.timing with
  | some (.acquire _ o _) => some o
  | _ => none

/-- The acquire expiry, present in ACQUIRE (R73). -/
def Shelf.acquireTimer (x : Shelf) : Option SecondTimer :=
  match x.timing with
  | some (.acquire _ _ t) => some t
  | _ => none

/-- Locked-since, present in LOCKED (R73). -/
def Shelf.lockedSince (x : Shelf) : Option Nat :=
  match x.timing with
  | some (.locked _ since) => some since
  | _ => none

/-- Holdover-start with the aged flag (R73). -/
def Shelf.heldOver (x : Shelf) : Option Holdover := x.timing.bind Timing.heldOver

/-- The chain in 7 bytes, unused bytes FFh (R170). -/
def putChain (c : List ShelfNo) : List Byte :=
  (List.range 7).flatMap fun i => putOption8 ((c.drop i).head?.map (·.val))

/-- The results of READ SHELF (R77, R170). Where holdover-start is absent the aged flag is an absent result, as the time
in holdover of the same clause of R77 is (R169, R170; log 31). -/
def State.shelfResults (s : State) (h : ShelfNo) : List Byte :=
  (s.shelf h).putConfig
    ++ put8 (s.shelf h).admission.code ++ putOption8 ((s.shelf h).rejectReason.map (·.code))
    ++ putOption8 ((s.shelf h).card.map (·.cardClass.code))
    ++ putOption8 ((s.shelf h).silence.map fun t => remaining t.expiry s.now)
    ++ putOption8 ((s.shelf h).timing.map (·.name.code))
    ++ putOption8 ((s.shelf h).selected.map (·.val))
    ++ putOption8 ((s.shelf h).origin.map (·.name.code))
    ++ putOption8 ((s.shelf h).origin.map (·.fallbackName.code))
    ++ putOption8 ((s.shelf h).origin.bind (·.carried))
    ++ putOption8 ((s.shelf h).acquireTimer.map fun t => remaining t.expiry s.now)
    ++ putOption32 ((s.shelf h).lockedSince.map fun since => s.now - since)
    ++ putOption32 ((s.shelf h).heldOver.map fun o => s.now - o.start)
    ++ putOptionFlag ((s.shelf h).heldOver.map (·.aged))
    ++ (s.shelf h).request.put ++ putFlag (s.shelf h).hold
    ++ putOption8 (((s.shelf h).card.bind (·.proposed)).map (·.val))
    ++ put8 (s.tracedGrade h) ++ putOption8 ((s.root h).map (·.val))
    ++ put8 (s.depth h) ++ put8 (s.height h) ++ put8 (s.chain h).length ++ putChain (s.chain h)
    ++ (s.shelf h).candidates.flatMap fun e => put16 (e.refusedUntil - s.now)

/-- READ SHELF (R77). -/
def serveReadShelf (body : List Byte) (s : State) : Answer :=
  if body.length ≠ 1 then refuse s .badLength []
  else if h : byteAt body 0 < 32 then accept s false (s.shelfResults ⟨byteAt body 0, h⟩)
  else refuse s .badIndex []

/-- READ_SHELF: a type 9 request is taken. -/
def execReadShelf (s : State) : Result := takeRequest (· == 9) serveReadShelf s

/-! ## SET SELECTION LIMITS -/

/-- The three limits held (R115). -/
def State.putLimits (s : State) : List Byte :=
  put8 s.engine.depthLimit ++ put8 s.refs.persistence ++ put8 s.engine.silenceLimit

/-- A JOINED shelf is deeper than a limit (R116). -/
def State.deeperThan (s : State) (limit : Nat) : Bool :=
  allShelves.any fun h => (s.shelf h).isJoined && decide (limit < s.depth h)

/-- The three limits are stored; a change of the depth limit sets the pending flag (R117). -/
def State.setLimits (depth persistence silence : Nat) (s : State) : State :=
  { s with
    refs := { s.refs with persistence := persistence }
    engine := { s.engine with
      depthLimit := depth
      silenceLimit := silence
      passPending := s.engine.passPending || depth != s.engine.depthLimit } }

/-- SET SELECTION LIMITS (R115 to R117). -/
def serveSetSelectionLimits (body : List Byte) (s : State) : Answer :=
  if body.length ≠ 3 then refuse s .badLength []
  else
    let depth := clampNat 1 6 (byteAt body 0)
    let persistence := clampNat 1 8 (byteAt body 1)
    let silence := clampNat 1 10 (byteAt body 2)
    if s.deeperThan depth then refuse s .inUse s.putLimits
    else
      accept (s.setLimits depth persistence silence)
        (depth != byteAt body 0 || persistence != byteAt body 1 || silence != byteAt body 2)
        (s.setLimits depth persistence silence).putLimits

/-- SET_SELECTION_LIMITS: a type 10 request is taken. -/
def execSetSelectionLimits (s : State) : Result := takeRequest (· == 10) serveSetSelectionLimits s

/-! ## SWITCH -/

/-- The switch request is written and the pending flag set (R120). -/
def State.setRequest (h : ShelfNo) (x : SwitchRequest) (s : State) : State :=
  (s.mapCard h fun c => { c with request := x }).leavePassPending

/-- The results of an accepted SWITCH (R120, R170). -/
def State.switchResults (s : State) (h : ShelfNo) : List Byte :=
  (s.shelf h).request.put ++ putOption8 ((s.shelf h).timing.map (·.name.code))
    ++ putOption8 ((s.shelf h).selected.map (·.val))

/-- Tests 1 to 3 of R119. -/
def State.switchBarred (s : State) (h : ShelfNo) : Option Status :=
  if !(s.shelf h).isJoined then some .notJoined
  else if (s.shelf h).acquiring then some .busy
  else if (s.shelf h).hold then some .held
  else none

/-- Tests 4 to 6 of R119, for FORCE and for MANUAL. -/
def State.switchUnfit (s : State) (h : ShelfNo) (force : Bool) (r : RefNo) : Option Status :=
  match (s.shelf h).entry r with
  | none => some .notCandidate
  | some e =>
    if e.lockout then some .lockedOut
    else if force then (if s.loopFree h r then none else some .loop)
    else (if s.eligible h e then none else some .notUsable)

/-- SWITCH with FORCE or MANUAL, once its numbers have passed (R119, R120). -/
def State.switchTo (s : State) (h : ShelfNo) (force : Bool) (r : RefNo) : Answer :=
  match s.switchBarred h with
  | some status => refuse s status (s.shelf h).request.put
  | none =>
    match s.switchUnfit h force r with
    | some status => refuse s status (s.shelf h).request.put
    | none =>
      let t := s.setRequest h (if force then .forced r else .manual r)
      accept t false (t.switchResults h)

/-- SWITCH with CLEAR (R119, R120). -/
def State.switchClear (s : State) (h : ShelfNo) : Answer :=
  match s.switchBarred h with
  | some status => refuse s status (s.shelf h).request.put
  | none => accept (s.setRequest h .none) false ((s.setRequest h .none).switchResults h)

/-- SWITCH (R119, R120): action CLEAR 0, FORCE 1, MANUAL 2 (R169). -/
def serveSwitch (body : List Byte) (s : State) : Answer :=
  if body.length ≠ 3 then refuse s .badLength []
  else if h : byteAt body 0 < 32 then
    if byteAt body 1 = 0 then s.switchClear ⟨byteAt body 0, h⟩
    else if 2 < byteAt body 1 then refuse s .badValue []
    else if g : byteAt body 2 < 40 then s.switchTo ⟨byteAt body 0, h⟩ (byteAt body 1 == 1) ⟨byteAt body 2, g⟩
    else refuse s .badIndex []
  else refuse s .badIndex []

/-- SWITCH: a type 11 request is taken. -/
def execSwitch (s : State) : Result := takeRequest (· == 11) serveSwitch s

/-! ## LOCKOUT -/

/-- The lockout flag of an entry is written (R125). -/
def State.setLockout (h : ShelfNo) (r : RefNo) (on : Bool) (s : State) : State :=
  (s.setShelf h { s.shelf h with
    candidates := (s.shelf h).candidates.map fun e => if e.ref = r then { e with lockout := on } else e }).leavePassPending

/-- The switch request that names a reference is removed (R127). -/
def State.dropTarget (h : ShelfNo) (r : RefNo) (s : State) : State :=
  match (s.shelf h).request with
  | .none => s
  | .forced x => if x = r then s.dropRequest h else s
  | .manual x => if x = r then s.dropRequest h else s

/-- An accepted LOCKOUT: nothing where the flag stands, the flag alone when it is cleared, and when it is set the
removal of the request and then the shelf taken off the reference (R125 to R127). -/
def State.lockOut (h : ShelfNo) (r : RefNo) (was on : Bool) (s : State) : State :=
  if was = on then s
  else if on then ((s.setLockout h r true).dropTarget h r).takeOff h r
  else s.setLockout h r false

/-- LOCKOUT (R125 to R127). -/
def serveLockout (body : List Byte) (s : State) : Answer :=
  if body.length ≠ 3 then refuse s .badLength []
  else if h : byteAt body 0 < 32 then
    if g : byteAt body 1 < 40 then
      match flagOfCode (byteAt body 2) with
      | none => refuse s .badValue []
      | some on =>
        match (s.shelf ⟨byteAt body 0, h⟩).entry ⟨byteAt body 1, g⟩ with
        | none => refuse s .notCandidate []
        | some e =>
          let t := State.regrading (State.lockOut ⟨byteAt body 0, h⟩ ⟨byteAt body 1, g⟩ e.lockout on) s
          accept t false (putFlag on ++ putOption8 ((t.shelf ⟨byteAt body 0, h⟩).timing.map (·.name.code))
            ++ (t.shelf ⟨byteAt body 0, h⟩).request.put)
    else refuse s .badIndex []
  else refuse s .badIndex []

/-- LOCKOUT: a type 12 request is taken. -/
def execLockout (s : State) : Result := takeRequest (· == 12) serveLockout s

/-! ## HOLD -/

/-- The hold flags of the shelves named are written; the pending flag is set if any flag changed (R129). -/
def State.setHolds (named : ShelfNo → Bool) (on : Bool) (s : State) : State :=
  { s with engine := { s.engine with
      shelves := Vector.ofFn fun h : ShelfNo => if named h then { s.shelf h with hold := on } else s.shelf h
      passPending := s.engine.passPending || allShelves.any fun h => named h && (s.shelf h).hold != on } }

/-- The set of shelves held (R129). -/
def State.heldShelves (s : State) : List ShelfNo := allShelves.filter fun h => (s.shelf h).hold

/-- HOLD: a shelf, or FFh for ALL (R129, R170). -/
def serveHold (body : List Byte) (s : State) : Answer :=
  if body.length ≠ 2 then refuse s .badLength []
  else if outsideOrPresent (byteAt body 0) 32 then refuse s .badIndex []
  else
    match flagOfCode (byteAt body 1) with
    | none => refuse s .badValue []
    | some on =>
      let t := s.setHolds (fun h => byteAt body 0 == 255 || byteAt body 0 == h.val) on
      accept t false (putShelfSet t.heldShelves)

/-- HOLD: a type 13 request is taken. -/
def execHold (s : State) : Result := takeRequest (· == 13) serveHold s

end Sys2Proof.Machine
end

