-- ==== Sys2Proof/Machine/Selection.lean ====
section
/-!
DEFINITION. Evaluation passes: PASS_START (R109), PASS_VISIT (R104, R110, R111, R121, R123) and PASS_END (R113).
-/

namespace Sys2Proof.Machine

open Sys2Proof

/-- A pass starts (R109). -/
def Engine.startPass (e : Engine) (visits : List ShelfNo) : Engine :=
  { e with passPending := false, pass := some ⟨visits, 0⟩, passCount := e.passCount + 1 }

/-- PASS_START: the pending flag is set and the engine IDLE (R109). -/
def execPassStart (s : State) : Result :=
  eventIf (s.engine.passPending && s.engine.pass.isNone) s fun s =>
    { s with engine := s.engine.startPass s.visitOrder }

/-- A choice is applied to an unheld shelf by the table of R104. -/
def State.applyChoice (h : ShelfNo) (choice : Option RefNo) (s : State) : State :=
  match (s.shelf h).timing, choice with
  | some .freeRun, some r => s.enterAcquire h r
  | some (.holdover _), some r => s.enterAcquire h r
  | some (.locked x _), some r => if r = x then s else s.enterAcquire h r
  | some (.locked _ _), none => s.leaveLocked h
  | _, _ => s

/-- A manual request whose target is not eligible is dropped at an unheld visit (R123). -/
def State.dropIneligible (h : ShelfNo) (s : State) : State :=
  match (s.shelf h).request with
  | .manual r => if s.eligibleRef h r then s else s.dropRequest h
  | _ => s

/-- The visit of a held shelf records its proposed reference (R111, R130). -/
def State.visitHeld (h : ShelfNo) (s : State) : State :=
  s.mapCard h fun c => { c with proposed := s.choice h }

/-- The visit of an unheld shelf applies its choice (R110, R123). -/
def State.visitUnheld (h : ShelfNo) (s : State) : State :=
  ((s.dropIneligible h).mapCard h fun c => { c with proposed := none }).applyChoice h (s.choice h)

/-- The visit of a shelf; one that is not JOINED at its visit is passed over, and none is visited in ACQUIRE (R104,
R110). A listed shelf that left JOINED and joined again before its visit is visited: a DESIGN CHOICE, unsafe for claims
about that visit (R110, R112, R114; log 37). -/
def State.visit (h : ShelfNo) (s : State) : State :=
  if (s.shelf h).visitable then
    if (s.shelf h).hold then s.visitHeld h else s.visitUnheld h
  else s

/-- The shelf whose visit comes next in the running pass (R110). -/
def Engine.nextVisit (e : Engine) : Option ShelfNo := e.pass.bind fun p => p.visits[p.position]?

/-- The position in the visit list moves on (R107). -/
def Engine.advance (e : Engine) : Engine :=
  { e with pass := e.pass.map fun p => { p with position := p.position + 1 } }

/-- PASS_VISIT: the next shelf of the visit list (R110). -/
def execPassVisit (s : State) : Result :=
  event s fun s =>
    match s.engine.nextVisit with
    | some h => State.regrading (State.visit h) { s with engine := s.engine.advance }
    | none => s

/-- A pass is over and the next visit is none (R113). -/
def Engine.passOver (e : Engine) : Bool := e.pass.isSome && e.nextVisit.isNone

/-- The end of a pass: clean, dirty, or dirty for the eighth time (R113). -/
def State.endPass (s : State) : State :=
  if !s.engine.passPending then { s with engine := { s.engine with pass := none, passCount := 0 } }
  else if s.engine.passCount < 8 then { s with engine := { s.engine with pass := none } }
  else { s with engine := { s.engine with pass := none, passPending := false, passCount := 0 } }.post .evalLimit

/-- PASS_END, after the last visit (R113). -/
def execPassEnd (s : State) : Result := eventIf s.engine.passOver s State.endPass

end Sys2Proof.Machine
end

