-- ==== Sys2Proof/Machine/Dispatch.lean ====
section
/-!
DEFINITION. The effect of a command on everything but the queue of commands: one arm for each command of the table.
-/

namespace Sys2Proof.Machine

open Sys2Proof

def exec (i : Instr) (s : State) : Host.Outcome State Fault Refusal :=
  match i with
  | .configureReference => Sys2Proof.Machine.execConfigureReference s
  | .readReference => Sys2Proof.Machine.execReadReference s
  | .clearRestore => Sys2Proof.Machine.execClearRestore s
  | .setOscillatorTrim => Sys2Proof.Machine.execSetOscillatorTrim s
  | .loadCodePlan => Sys2Proof.Machine.execLoadCodePlan s
  | .readCodePlan => Sys2Proof.Machine.execReadCodePlan s
  | .setGradeOverride => Sys2Proof.Machine.execSetGradeOverride s
  | .configureShelf => Sys2Proof.Machine.execConfigureShelf s
  | .readShelf => Sys2Proof.Machine.execReadShelf s
  | .setSelectionLimits => Sys2Proof.Machine.execSetSelectionLimits s
  | .switch => Sys2Proof.Machine.execSwitch s
  | .lockout => Sys2Proof.Machine.execLockout s
  | .hold => Sys2Proof.Machine.execHold s
  | .setHighway => Sys2Proof.Machine.execSetHighway s
  | .readHighway => Sys2Proof.Machine.execReadHighway s
  | .injectBlock => Sys2Proof.Machine.execInjectBlock s
  | .setReporting => Sys2Proof.Machine.execSetReporting s
  | .collect => Sys2Proof.Machine.execCollect s
  | .endService => Sys2Proof.Machine.execEndService s
  | .setMode => Sys2Proof.Machine.execSetMode s
  | .readStatus => Sys2Proof.Machine.execReadStatus s
  | .reset => Sys2Proof.Machine.execReset s
  | .unknownRequestType => Sys2Proof.Machine.execUnknownRequestType s
  | .replyEnd => Sys2Proof.Machine.execReplyEnd s
  | .resetPin => Sys2Proof.Machine.execResetPin s
  | .byteReceived value stopHigh => Sys2Proof.Machine.execByteReceived value stopHigh s
  | .byteWatchExpiry => Sys2Proof.Machine.execByteWatchExpiry s
  | .tickEvent => Sys2Proof.Machine.execTickEvent s
  | .secondEvent => Sys2Proof.Machine.execSecondEvent s
  | .edge r => Sys2Proof.Machine.execEdge r s
  | .signalLost r => Sys2Proof.Machine.execSignalLost r s
  | .failTimerExpiry r => Sys2Proof.Machine.execFailTimerExpiry r s
  | .restoreTimerExpiry r => Sys2Proof.Machine.execRestoreTimerExpiry r s
  | .qhFrameStart pulse => Sys2Proof.Machine.execQhFrameStart pulse s
  | .frameWatchRunOut => Sys2Proof.Machine.execFrameWatchRunOut s
  | .qhSync => Sys2Proof.Machine.execQhSync s
  | .qhRecovered => Sys2Proof.Machine.execQhRecovered s
  | .wordReceived slot bits => Sys2Proof.Machine.execWordReceived slot bits s
  | .messageAgeExpiry r => Sys2Proof.Machine.execMessageAgeExpiry r s
  | .cardSilenceExpiry h => Sys2Proof.Machine.execCardSilenceExpiry h s
  | .acquireExpiry h => Sys2Proof.Machine.execAcquireExpiry h s
  | .holdoverAging h => Sys2Proof.Machine.execHoldoverAging h s
  | .refusalMarkRunOut h r => Sys2Proof.Machine.execRefusalMarkRunOut h r s
  | .passStart => Sys2Proof.Machine.execPassStart s
  | .passVisit => Sys2Proof.Machine.execPassVisit s
  | .passEnd => Sys2Proof.Machine.execPassEnd s
  | .dhFrameStart => Sys2Proof.Machine.execDhFrameStart s
  | .commandBlockStart slot => Sys2Proof.Machine.execCommandBlockStart slot s
  | .qualityBlockStart slot => Sys2Proof.Machine.execQualityBlockStart slot s
  | .resetPinAsserted => Sys2Proof.Machine.execResetPinAsserted s

end Sys2Proof.Machine
end

