-- ==== Sys2Proof/Safety.lean ====
section
/-!
DEFINITION. What the statements say about states: the invariants of the part, block by block, the requests that wait
and the replies being sent, and what one event leaves as it was.
-/

namespace Sys2Proof.Machine

open Sys2Proof

/-! ## Clocks and the outgoing highway -/

/-- Office time is a tenth of the tick events, less the second event still to be taken, up to its top value, and the
count toward the next tick event is within its range (R22, R23). -/
abbrev TimeBase.sound (t : TimeBase) : Prop :=
  t.subTicks ≤ Config.ticksPerTickEvent ∧ (t.secondDue = true → t.tickCount % 10 = 0 ∧ 0 < t.tickCount)
    ∧ t.officeTime = min Config.topTime (t.tickCount / 10 - if t.secondDue then 1 else 0)

/-- A block in progress has the length of its slot's blocks and some of its words sent, and words to go or else its
last word being sent (R133, R136, R137, R140). -/
def DhSlot.sound (length : Nat) (x : DhSlot) : Bool :=
  match x.block with
  | some b =>
    b.words.length == length && decide (1 ≤ b.sent)
      && (decide (b.sent < length) || (b.sent == length && x.word.isSome))
  | none => true

/-- The rotation position of a quality slot names a reference of its residue (R139). -/
def rotationSound (j : Fin 16) (p : Option RefNo) : Bool :=
  match p with
  | some r => r.val % 16 == j.val
  | none => true

/-- The Distribution Highway Transmitter holds only what R133 gives. -/
abbrev DhTransmitter.sound (d : DhTransmitter) : Prop :=
  d.ticks ≤ Config.ticksPerFrame ∧ 1 ≤ d.position ∧ d.position ≤ Config.bitsPerFrame
    ∧ (∀ n : SlotNo, (d.slots[n].sound (if n.val < 32 then 5 else 4)) = true)
    ∧ ∀ j : Fin 16, rotationSound j d.rotation[j] = true

/-- The part's clocks and its outgoing highway. -/
abbrev State.clocksSound (s : State) : Prop := s.time.sound ∧ s.dh.sound

/-! ## The Report Queue -/

/-- A record stands for 1 to 63 reports, posted in the order of its times (R146). -/
abbrev Record.sound (now : Nat) (x : Record) : Prop :=
  1 ≤ x.count ∧ x.count ≤ 63 ∧ x.first ≤ x.last ∧ x.last ≤ now

/-- The Report Queue holds only what R146 gives, reports are lost only while 64 records are held (R148), and the
attention line follows its condition but in reset (R149, R166). -/
abbrev State.queueSound (s : State) : Prop :=
  s.now ≤ Config.topTime ∧ s.queue.records.length ≤ 64 ∧ (∀ x ∈ s.queue.records, x.sound s.now)
    ∧ s.queue.inService ≤ 16 ∧ s.queue.inService ≤ s.queue.records.length
    ∧ (s.queue.service = .opened ↔ 0 < s.queue.inService)
    ∧ s.queue.lost ≤ 65535 ∧ (0 < s.queue.lost → s.queue.records.length = 64)
    ∧ 1 ≤ s.queue.threshold ∧ s.queue.threshold ≤ 64 ∧ s.queue.ageLimit ≤ 60
    ∧ s.queue.attention = (!s.resetHeld && s.queue.attentionCondition s.now)

/-! ## What comes in: the Quality Highway and the serial line -/

/-- An assembler holds at most the words of one unfinished block, of the length its tag gives (R51, R52). -/
def Assembler.sound : Assembler → Bool
  | .hunt => true
  | .collect _ [] => false
  | .collect length (tag :: rest) =>
    decide (rest.length + 1 < length) &&
      ((length == 4 && decide (tag.toNat < 40)) ||
        (length == 5 && decide (64 ≤ tag.toNat) && decide (tag.toNat < 96)))

/-- While ALIGNED the position is that of a frame start or of a word's last bit, a miss counted by a run-out is that of
the frame start expected next, and the watch and the count of missing pulses are within their ranges (R43, R44, R46,
R47). -/
def Framing.sound (missing : Nat) (f : Framing) : Bool :=
  decide (1 ≤ f.position) && decide (f.position ≤ Config.bitsPerFrame)
    && (f.position == 1 || f.position % 8 == 0) && (!f.missCounted || f.position == Config.bitsPerFrame)
    && decide (f.watch ≤ Config.frameWatchLimit) && decide (missing < 8)

/-- The Quality Highway Receiver holds only what R43 gives. -/
abbrev QhReceiver.sound (q : QhReceiver) : Prop :=
  (∀ n : SlotNo, (q.assemblers[n]).sound = true) ∧ q.missing ≤ 8 ∧ q.framing.all (Framing.sound q.missing) = true
    ∧ q.checkErrors ≤ 65535 ∧ q.markErrors ≤ 65535 ∧ q.misroutes ≤ 65535

/-- The frame in assembly has the bytes of its receive state (R154, R156). -/
def Receive.sound : Receive → Bool
  | .hunt => true
  | .length => true
  | .body a => decide (2 ≤ a.length) && decide (a.length ≤ 250) && decide (a.bytes.length < a.length)
  | .check1 a => decide (2 ≤ a.length) && decide (a.length ≤ 250) && a.bytes.length == a.length
  | .check2 a _ => decide (2 ≤ a.length) && decide (a.length ≤ 250) && a.bytes.length == a.length

/-- The time spent on the byte of a reply being sent is less than a byte's (R155). -/
def Sending.sound (x : Sending) : Bool := decide (x.elapsed < Config.byteTime)

/-- The Message Port holds only what R154 gives, and a reply is sent for a frame that is held (R160). -/
abbrev Port.sound (p : Port) : Prop :=
  p.receive.sound = true ∧ p.byteWatch ≤ Config.byteWatchLimit ∧ p.buffer.length ≤ 2
    ∧ (∀ f ∈ p.buffer, f.body.length ≤ 248) ∧ (p.transmit.isSome = true → p.buffer ≠ [])
    ∧ p.transmit.all Sending.sound = true

/-- What comes in. -/
abbrev State.inputsSound (s : State) : Prop := s.qh.sound ∧ s.port.sound

/-! ## Channels -/

/-- An offset within ±400,000, or absent (R25). -/
def offsetSound (x : Option Int) : Bool :=
  match x with
  | some v => decide (v.natAbs ≤ 400000)
  | none => true

/-- A gate in progress has fewer edges than it needs, and no interval in it was longer than the edge watch allows
(R25, R30). -/
def Gate.sound (gateLength watch : Nat) (g : Gate) : Bool :=
  decide (g.edges < 8000 * gateLength) && decide (g.ticks ≤ 10000 * g.edges + watch)

/-- The filter is empty exactly in UNMEASURED, a signal is PRESENT exactly while a gate is in progress, the sample of
a tick is closed only at the limit of the edge watch, and every number is within its range (R25, R28 to R30, R36). -/
abbrev Channel.sound (gateLength : Nat) (c : Channel) : Prop :=
  (c.filtered = none ↔ c.freq = .unmeasured) ∧ (c.present = false → c.freq = .unmeasured)
    ∧ (c.present = true ↔ c.gate ≠ none) ∧ c.edgeWatch ≤ Config.edgeWatchLimit
    ∧ (c.sampleClosed = true → c.present = true → c.edgeWatch = Config.edgeWatchLimit)
    ∧ c.gate.all (Gate.sound gateLength c.edgeWatch) = true
    ∧ offsetSound c.lastRaw = true ∧ offsetSound c.filtered = true

/-- Every channel is sound and every gate length is one the part has (R26). -/
abbrev State.channelsSound (s : State) : Prop :=
  ∀ r : RefNo, (s.ref r).cfg.gateLength ∈ [1, 2, 4, 8] ∧ (s.chan r).sound (s.ref r).cfg.gateLength

/-! ## References -/

/-- The timers, the first qualification flag and the candidate of a record agree with its state (R8, R14, R64). -/
abbrev RefRecord.sound (x : RefRecord) : Prop :=
  (x.run.failTimer.isSome = true ↔ x.run.availability = .failing)
    ∧ (x.run.restoreTimer.isSome = true ↔ x.run.availability = .restoring)
    ∧ (x.run.firstQualification = true → x.run.availability = .failed)
    ∧ (x.cfg.kind = .unused → x.run.availability = .failed ∧ x.run.firstQualification = true)
    ∧ (x.run.candidateCount = 0 ↔ x.run.candidate = none) ∧ x.run.candidateCount ≤ 7

/-- Availability follows the defect condition (section 1.8), and in NORMAL mode no reference holds an override
(R71). -/
abbrev State.referencesSound (s : State) : Prop :=
  (∀ r : RefNo, (s.ref r).sound
      ∧ ((s.ref r).cfg.kind ≠ .unused →
        (s.defect r = true ↔ (s.ref r).run.availability = .failing ∨ (s.ref r).run.availability = .failed))
      ∧ (s.port.mode = .normal → (s.ref r).run.override = none))
    ∧ 1 ≤ s.refs.persistence ∧ s.refs.persistence ≤ 8

/-! ## Grades -/

/-- The grades a reference record holds (R5, R7, R70). -/
abbrev RefRecord.gradesSound (x : RefRecord) : Prop :=
  gradeValid x.cfg.fixedGrade = true ∧ gradeValid x.cfg.staleGrade = true ∧ x.run.override.all gradeValid = true

/-- The grades a receive map holds (R60, R61). -/
abbrev CodePlan.sound (p : CodePlan) : Prop := ∀ c : Code, gradeValid p.receive[c] = true

/-- The carried grade of an acquisition that began in LOCKED (R73). -/
def Shelf.carried (x : Shelf) : Option Nat :=
  match x.timing with
  | some (.acquire _ (.locked _ g) _) => some g
  | _ => none

/-- The grades a shelf record holds (R72, R73). -/
abbrev Shelf.gradesSound (x : Shelf) : Prop :=
  x.cfg.minimumGrade ∈ List.range' 1 12 ∧ x.cfg.holdoverGrade ∈ List.range' 1 12
    ∧ x.cfg.freeRunGrade ∈ List.range' 1 12 ∧ x.carried.all gradeValid = true

/-- Every grade held and every grade derived is 1 to 12, or 15 (R68, R92). -/
abbrev State.gradesSound (s : State) : Prop :=
  (∀ r : RefNo, (s.ref r).gradesSound) ∧ s.refs.planA.sound ∧ s.refs.planB.sound
    ∧ (∀ h : ShelfNo, (s.shelf h).gradesSound)
    ∧ (∀ r : RefNo, gradeValid (s.effectiveGrade r) = true) ∧ ∀ h : ShelfNo, gradeValid (s.tracedGrade h) = true

/-! ## Selections and chains -/

/-- The reference a switch request names. -/
def SwitchRequest.target : SwitchRequest → Option RefNo
  | .none => Option.none
  | .forced r => some r
  | .manual r => some r

/-- A reference is named by an entry that is not locked out. -/
def Shelf.offersUnlocked (x : Shelf) (r : RefNo) : Bool := x.candidates.any fun e => e.ref == r && !e.lockout

/-- A selected reference is an entry of the shelf's own list that is not locked out (R125) and is usable (R105), and
a standing switch request names an entry that is not locked out (R120). -/
abbrev State.selectionSound (s : State) (h : ShelfNo) : Prop :=
  (s.shelf h).selected.all (fun r => (s.shelf h).offersUnlocked r && (s.ref r).run.availability.usable) = true
    ∧ (s.shelf h).request.target.all (s.shelf h).offersUnlocked = true

/-- Every selection and every switch request is sound. -/
abbrev State.selectionsSound (s : State) : Prop := ∀ h : ShelfNo, s.selectionSound h

/-- No chain is longer than the depth limit allows, so none returns to itself (R95, R101), and the limits and the
pass count are within their ranges (R107). -/
abbrev State.chainsSound (s : State) : Prop :=
  1 ≤ s.engine.depthLimit ∧ s.engine.depthLimit ≤ 6 ∧ (∀ h : ShelfNo, s.depth h ≤ s.engine.depthLimit)
    ∧ 1 ≤ s.engine.silenceLimit ∧ s.engine.silenceLimit ≤ 10 ∧ s.engine.passCount ≤ 8
    ∧ (s.engine.pass = none → s.engine.passCount < 8) ∧ (s.engine.pass ≠ none → 1 ≤ s.engine.passCount)

/-! ## Requests -/

/-- A frame of a type is the oldest of the buffer, no reply is being sent, and the part is out of reset (R160). -/
abbrev State.asks (s : State) (type : Nat) (f : Frame) : Prop :=
  s.resetHeld = false ∧ s.port.transmit = none ∧ s.port.buffer.head? = some f ∧ f.type.toNat = type

/-- A state in which the reply to a frame is being sent with its whole length to go (R160, R161). -/
def State.replying (s : State) (f : Frame) (status : Status) (clamped : Bool) (results : List Byte) : State :=
  { s with port := { s.port with transmit := some (replyTo f ⟨s, status, clamped, results⟩) } }

/-- The status byte of a reply of which no byte has gone out, the fifth of its frame (R161). -/
def Sending.status (r : Sending) : Option Byte := (r.bytes.drop 4).head?

/-- Reports posted one after another (R144). -/
def State.postAll (reps : List Report) (s : State) : State := reps.foldl (fun t rep => t.post rep) s

/-- The reports of the references whose effective grade differs between two states (R69, R94; log 16). -/
def gradeReports (before after : State) : List Report :=
  (before.regraded after).map fun r => .refGrade r (after.effectiveGrade r)

/-! ## What an event leaves as it was -/

/-- The settings of the Report Queue and the service (R146). -/
abbrev KeepsService (s t : State) : Prop :=
  t.queue.service = s.queue.service ∧ t.queue.inService = s.queue.inService
    ∧ t.queue.threshold = s.queue.threshold ∧ t.queue.ageLimit = s.queue.ageLimit

/-- The clocks, the outgoing highway, the code plans, the limits, the pass under way, the reset pin and every
configuration: what no event of one reference or one shelf writes. -/
abbrev KeepsSettings (s t : State) : Prop :=
  t.time = s.time ∧ t.dh = s.dh ∧ t.resetHeld = s.resetHeld ∧ t.pending = s.pending
    ∧ t.monitor.trim = s.monitor.trim ∧ t.refs.planA = s.refs.planA ∧ t.refs.planB = s.refs.planB
    ∧ t.refs.persistence = s.refs.persistence
    ∧ t.engine.depthLimit = s.engine.depthLimit ∧ t.engine.silenceLimit = s.engine.silenceLimit
    ∧ t.engine.pass = s.engine.pass ∧ t.engine.passCount = s.engine.passCount
    ∧ (∀ r : RefNo, (t.ref r).cfg = (s.ref r).cfg) ∧ (∀ h : ShelfNo, (t.shelf h).cfg = (s.shelf h).cfg)
    ∧ (∀ h : ShelfNo, (t.shelf h).hold = (s.shelf h).hold) ∧ KeepsService s t

/-- The records and channels of every reference but one. -/
abbrev KeepsOtherRefs (r : RefNo) (s t : State) : Prop :=
  ∀ x : RefNo, x ≠ r → t.ref x = s.ref x ∧ t.chan x = s.chan x

/-- The records of every shelf but one. -/
abbrev KeepsOtherShelves (h : ShelfNo) (s t : State) : Prop := ∀ x : ShelfNo, x ≠ h → t.shelf x = s.shelf x

/-- The candidate lists and the card silence of every shelf: what the failure of a reference leaves as it was. -/
abbrev KeepsLists (s t : State) : Prop :=
  ∀ h : ShelfNo, (t.shelf h).candidates = (s.shelf h).candidates ∧ (t.shelf h).silence = (s.shelf h).silence

/-- The Quality Highway Receiver and the Message Port: what no event of one reference or one shelf writes but a
delivery. -/
abbrev KeepsIncoming (s t : State) : Prop := t.qh = s.qh ∧ t.port = s.port

/-- What an event of one shelf leaves as it was: everything but that shelf's record, the pending flag and the Report
Queue. -/
abbrev OnlyShelf (h : ShelfNo) (s t : State) : Prop :=
  KeepsSettings s t ∧ KeepsIncoming s t ∧ t.monitor = s.monitor ∧ t.refs = s.refs ∧ KeepsOtherShelves h s t

/-- The pending flag after an event of shelf h: set where the admission, the timing state or a grade changes (R94). -/
abbrev PassAfter (h : ShelfNo) (s t : State) : Prop :=
  t.engine.passPending = (s.engine.passPending || decide ((t.shelf h).admission.code ≠ (s.shelf h).admission.code)
    || decide ((t.shelf h).timing ≠ (s.shelf h).timing) || !(gradeReports s t).isEmpty)

/-! ## Tables of the chapters, written out -/

/-- A timer counted in seconds at a second event: reached once its expiry is not later than office time (R24). -/
def timerAt (now : Nat) (t : SecondTimer) : SecondTimer := ⟨t.expiry, t.reached || decide (t.expiry ≤ now)⟩

/-- A holdover at a second event: its aging is reached where the limit is not 0, it is not aged, and its due time, held
at the top of office time, is not later than office time (R24, R90). -/
def holdoverAt (limit now : Nat) (o : Holdover) : Holdover :=
  ⟨o.start, o.aged,
    o.reached || (decide (limit ≠ 0) && !o.aged && decide (min (o.start + limit) 4294967295 ≤ now))⟩

/-- A timing state at a second event: its acquire expiry and its aging (R24, R85, R90). -/
def timingAt (limit now : Nat) : Timing → Timing
  | .freeRun => .freeRun
  | .acquire r .freeRun t => .acquire r .freeRun (timerAt now t)
  | .acquire r (.locked f g) t => .acquire r (.locked f g) (timerAt now t)
  | .acquire r (.holdover o) t => .acquire r (.holdover (holdoverAt limit now o)) (timerAt now t)
  | .locked r since => .locked r since
  | .holdover o => .holdover (holdoverAt limit now o)

/-- A slot of the outgoing highway when its frame reaches a bit: the next word of its block from its first bit on, and
no block once the last word is sent (R136). -/
def slotAt (n : SlotNo) (bit : Nat) (x : DhSlot) : DhSlot :=
  match x with
  | ⟨some b, none⟩ => if bit < 8 * n.val + 1 then x else ⟨some ⟨b.words, b.sent + 1⟩, some (b.words.getD b.sent 0)⟩
  | ⟨some b, some w⟩ => if b.sent < b.words.length ∨ bit ≤ 8 * n.val + 8 then x else ⟨none, some w⟩
  | ⟨none, _⟩ => x

/-- The running fields of a reference after a change of its defect condition: the table of section 1.8, at a tick and
an office time (R14 to R18). -/
def runAfter (x : RefRecord) (tick now : Nat) (before after : Bool) : RefRunning :=
  if x.cfg.kind = .unused then x.run
  else
    match before, after, x.run.availability with
    | false, true, .available =>
      if x.cfg.failDelay = 0 then { x.run with availability := .failed, failTimer := none, restoreTimer := none }
      else
        { x.run with
          availability := .failing
          failTimer := some (tick + x.cfg.failDelay)
          restoreTimer := none }
    | false, true, .restoring => { x.run with availability := .failed, failTimer := none, restoreTimer := none }
    | true, false, .failing => { x.run with availability := .available, failTimer := none, restoreTimer := none }
    | true, false, .failed =>
      if x.run.firstQualification then
        { x.run with
          availability := .available
          firstQualification := false
          failTimer := none
          restoreTimer := none }
      else if x.cfg.restoreDelay = 0 then
        { x.run with availability := .available, failTimer := none, restoreTimer := none }
      else
        { x.run with
          availability := .restoring
          failTimer := none
          restoreTimer := some ⟨min (now + x.cfg.restoreDelay) 4294967295, false⟩ }
    | _, _, _ => x.run

/-- The availability report of a change of the defect condition (section 1.8). -/
def availabilityReports (r : RefNo) (x : RefRecord) (before after : Bool) : List Report :=
  if x.cfg.kind = .unused then []
  else
    match before, after, x.run.availability with
    | false, true, .available => if x.cfg.failDelay = 0 then [.refFailed r .immediate] else [.refFailing r]
    | false, true, .restoring => [.refFailed r .restoring]
    | true, false, .failing => [.refAvailable r .recovered]
    | true, false, .failed =>
      if x.run.firstQualification then [.refAvailable r .first]
      else if x.cfg.restoreDelay = 0 then [.refAvailable r .immediate]
      else [.refRestoring r]
    | _, _, _ => []

/-- The timing state a shelf goes to when it is taken off its reference: the qualify test from LOCKED (R89), the
fallback fixed on entry from ACQUIRE (R83, R85). -/
def fallbackOf (s : State) (h : ShelfNo) : Timing → Timing
  | .locked _ since =>
    if (s.shelf h).cfg.qualifyTime ≤ s.now - since then .holdover ⟨s.now, false, false⟩ else .freeRun
  | .acquire _ (.locked .holdover _) _ => .holdover ⟨s.now, false, false⟩
  | .acquire _ (.locked .freeRun _) _ => .freeRun
  | .acquire _ (.holdover o) _ => .holdover o
  | .acquire _ .freeRun _ => .freeRun
  | .freeRun => .freeRun
  | .holdover o => .holdover o

/-- A joined shelf in another timing state; a shelf that is not JOINED as it is. -/
def Shelf.withTiming (x : Shelf) (t : Timing) : Shelf :=
  match x.admission with
  | .joined c => { x with admission := .joined { c with timing := t } }
  | _ => x

/-- A shelf after its reference r has failed or its entry has been locked out (R86, R105, R126). -/
def shelfOff (s : State) (r : RefNo) (h : ShelfNo) : Shelf :=
  match (s.shelf h).timing with
  | some t => if t.selected = some r then (s.shelf h).withTiming (fallbackOf s h t) else s.shelf h
  | none => s.shelf h

/-- The reports of a shelf taken off r: ACQUIRE_ABANDONED from ACQUIRE, then SHELF_STATE (R86, R89). -/
def offReports (s : State) (r : RefNo) (h : ShelfNo) : List Report :=
  match (s.shelf h).timing with
  | some t =>
    if t.selected = some r then
      (if (s.shelf h).acquiring then [.acquireAbandoned h r] else []) ++ [.shelfState h (fallbackOf s h t).name]
    else []
  | none => []

/-- A reference enters FAILED by a change of its defect condition (R21, R105). -/
def entersFailed (x : RefRecord) (before after : Bool) : Bool :=
  decide (x.run.availability ≠ .failed) && decide ((runAfter x 0 0 before after).availability = .failed)

/-- What a change of the defect condition of ref r does to the references, the shelves and the Report Queue, after
earlier reports of the same event (sections 1.8 and 6.4). -/
abbrev DefectOutcome (r : RefNo) (earlier : List Report) (before after : Bool) (s t : State) : Prop :=
  (t.ref r).run.availability = (runAfter (s.ref r) s.time.tickCount s.now before after).availability
    ∧ (t.ref r).run.firstQualification = (runAfter (s.ref r) s.time.tickCount s.now before after).firstQualification
    ∧ (t.ref r).run.failTimer = (runAfter (s.ref r) s.time.tickCount s.now before after).failTimer
    ∧ (t.ref r).run.restoreTimer = (runAfter (s.ref r) s.time.tickCount s.now before after).restoreTimer
    ∧ (∀ h : ShelfNo, t.shelf h = if entersFailed (s.ref r) before after then shelfOff s r h else s.shelf h)
    ∧ t.engine.passPending = (s.engine.passPending || decide ((t.ref r).run.availability ≠ (s.ref r).run.availability)
        || !(gradeReports s t).isEmpty)
    ∧ t.queue = (s.postAll (earlier ++ availabilityReports r (s.ref r) before after
        ++ (if entersFailed (s.ref r) before after then allShelves.flatMap (offReports s r) else [])
        ++ gradeReports s t)).queue

/-- The refusal mark set on the entries that name a reference (R91). -/
def markedEntries (s : State) (h : ShelfNo) (r : RefNo) : List Candidate :=
  (s.shelf h).candidates.map fun e =>
    if e.ref = r then
      { e with
        refusedUntil := min (s.now + (s.shelf h).cfg.refusalPeriod) 4294967295
        armed := decide (s.now < min (s.now + (s.shelf h).cfg.refusalPeriod) 4294967295) }
    else e

/-- A card's loss of lock on r (R88, R89). -/
def lockLost (s : State) (h : ShelfNo) (r : RefNo) (t : Timing) : Shelf × List Report :=
  ({ (s.shelf h).withTiming (fallbackOf s h t) with candidates := markedEntries s h r },
    [.lockLost h r, .shelfState h (fallbackOf s h t).name])

/-- The shelf and the reports after a card report: the tables of R78 to R80, R84, R87 and R88. -/
def cardOutcome (s : State) (h : ShelfNo) (rep : CardReport) : Shelf × List Report :=
  let x := s.shelf h
  match x.admission, rep with
  | .joined c, .announce cls =>
    if x.cfg.classes.getLsbD (cls.code - 1) then
      ({ x with admission := .joined { c with cardClass := cls, timing := .freeRun } },
        .cardRestart h cls :: if c.timing.name = .freeRun then [] else [.shelfState h .freeRun])
    else ({ x with admission := .rejected .cardClass }, [.cardRejected h .cardClass])
  | _, .announce cls =>
    if !x.cfg.enabled then ({ x with admission := .rejected .disabled }, [.cardRejected h .disabled])
    else if !x.cfg.classes.getLsbD (cls.code - 1) then
      ({ x with admission := .rejected .cardClass }, [.cardRejected h .cardClass])
    else ({ x with admission := .joined ⟨cls, .freeRun, .none, none⟩ }, [.cardJoined h cls, .shelfState h .freeRun])
  | .vacant, _ => (x, [])
  | _, .withdraw => ({ x with admission := .vacant }, [.cardWithdrawn h])
  | .rejected _, _ => (x, [])
  | .joined c, .tracking y =>
    match c.timing with
    | .acquire r _ _ =>
      if y = r then (x.withTiming (.locked r s.now), [.switchDone h r, .shelfState h .locked]) else (x, [])
    | .locked r _ => if y = r then (x, []) else lockLost s h r c.timing
    | .freeRun => (x, [.lateLock h y])
    | .holdover _ => (x, [.lateLock h y])
  | .joined c, .free =>
    match c.timing with
    | .locked r _ => lockLost s h r c.timing
    | _ => (x, [])
  | .joined _, .acquiring _ => (x, [])

/-- An acquire expiry set now (R83). -/
def acquireExpiry (s : State) (h : ShelfNo) : SecondTimer :=
  ⟨min (s.now + (s.shelf h).cfg.acquireLimit) 4294967295, false⟩

/-- The timing state an unheld visit leaves, by the table of R104 with the entries into ACQUIRE of R83. -/
def visitOutcome (s : State) (h : ShelfNo) (choice : Option RefNo) : Timing → Timing
  | .freeRun =>
    match choice with
    | some r => .acquire r .freeRun (acquireExpiry s h)
    | none => .freeRun
  | .holdover o =>
    match choice with
    | some r => .acquire r (.holdover o) (acquireExpiry s h)
    | none => .holdover o
  | .locked x since =>
    match choice with
    | some r =>
      if r = x then .locked x since
      else
        .acquire r
          (.locked (if (s.shelf h).cfg.qualifyTime ≤ s.now - since then .holdover else .freeRun) (s.tracedGrade h))
          (acquireExpiry s h)
    | none => fallbackOf s h (.locked x since)
  | .acquire r o t => .acquire r o t

/-- The aged flag set where holdover-start is present (R90). -/
def agedTiming : Timing → Timing
  | .holdover o => .holdover ⟨o.start, true, false⟩
  | .acquire r (.holdover o) t => .acquire r (.holdover ⟨o.start, true, false⟩) t
  | .acquire r (.locked f g) t => .acquire r (.locked f g) t
  | .acquire r .freeRun t => .acquire r .freeRun t
  | .locked r since => .locked r since
  | .freeRun => .freeRun

end Sys2Proof.Machine
end

