-- ==== Sys2Proof/WellFormed.lean ====
section
/-!
DEFINITION. Which commands name a reference, shelf or slot that the part has (00_scope.md section 4.1).
-/

namespace Sys2Proof

/-- The numbers a command carries lie within their tables. -/
def Instr.wellFormed (i : Instr) : Bool :=
  match i with
  | .configureReference | .readReference | .clearRestore | .setOscillatorTrim | .loadCodePlan | .readCodePlan
  | .setGradeOverride | .configureShelf | .readShelf | .setSelectionLimits | .switch | .lockout | .hold
  | .setHighway | .readHighway | .injectBlock | .setReporting | .collect | .endService | .setMode | .readStatus
  | .reset | .unknownRequestType | .replyEnd | .resetPin | .byteReceived _ _ | .byteWatchExpiry | .tickEvent
  | .secondEvent | .qhFrameStart _ | .frameWatchRunOut | .qhSync | .qhRecovered | .passStart | .passVisit
  | .passEnd | .dhFrameStart | .resetPinAsserted => true
  | .edge r | .signalLost r | .failTimerExpiry r | .restoreTimerExpiry r | .messageAgeExpiry r => decide (r < 40)
  | .cardSilenceExpiry h | .acquireExpiry h | .holdoverAging h => decide (h < 32)
  | .refusalMarkRunOut h r => decide (h < 32) && decide (r < 40)
  | .wordReceived slot _ => decide (slot < 48)
  | .commandBlockStart slot => decide (slot < 32)
  | .qualityBlockStart slot => decide (32 ≤ slot) && decide (slot < 48)

end Sys2Proof
end

