-- ==== Sys2Proof/Certificates/Slice0/Obligations.lean ====
section
/-!
DEFINITION. The statements for the provers. Requests that are taken are given by the frame in the buffer (State.asks)
and the reply being sent (State.replying); every body is written out byte by byte.
-/

open Sys2Proof Sys2Proof.Machine

set_option Elab.async false

/-! ## Steps -/

/-- A step takes the command at the front of the queue and runs exec on the queue's rest. -/
def Obligations.StepRunsTheFrontCommand : Prop :=
  ∀ (c : Instr) (rest : List Instr) (s : State),
    step { s with pending := c :: rest } = exec c { s with pending := rest }

/-- With no command waiting one measurement tick passes, and none passes in reset or while a counted event is due. At a
tick at which an edge watch reaches 10,000 the samples are closed first, with no other change. A tick moves each count
on, each slot of the outgoing frame to the bit reached and the reply by a tick's share of a byte. That a tick is what an
empty queue does, that it waits and that samples close first, where the bits of a frame fall, what the pins are taken to
show, when a word counts as sent and its block is absent, and that the reply is paced by the oscillator are choices and
readings of the model (logs 3, 6, 9, 10, 12 and 33). -/
def Obligations.EmptyQueuePassesOneMeasurementTick : Prop :=
  ∀ s : State, s.pending = [] →
    (s.resetHeld = true → step s = .next s)
    ∧ (s.resetHeld = false →
        (∃ r : RefNo, (s.chan r).present = true ∧ 10000 ≤ (s.chan r).edgeWatch ∧ (s.chan r).sampleClosed = false) →
        ∃ t : State, step s = .next t
          ∧ (∀ r : RefNo, t.chan r = { s.chan r with sampleClosed :=
              (s.chan r).sampleClosed || ((s.chan r).present && decide (10000 ≤ (s.chan r).edgeWatch)) })
          ∧ t = { s with monitor := { s.monitor with channels := t.monitor.channels } })
    ∧ (s.resetHeld = false →
        (∀ r : RefNo, (s.chan r).present = true → (s.chan r).edgeWatch < 10000 ∨ (s.chan r).sampleClosed = true) →
        s.timeEventDue = true → step s = .next s)
    ∧ (s.resetHeld = false →
        (∀ r : RefNo, (s.chan r).present = true → (s.chan r).edgeWatch < 10000 ∨ (s.chan r).sampleClosed = true) →
        s.timeEventDue = false → ∃ t : State, step s = .next t
        ∧ t.time = { s.time with subTicks := s.time.subTicks + 1 }
        ∧ t.monitor.trim = s.monitor.trim
        ∧ (∀ r : RefNo, t.chan r = { s.chan r with
            pinHigh := (s.chan r).pinNow
            pinNow := false
            sampleClosed := false
            edgeWatch := (s.chan r).edgeWatch + (if (s.chan r).present then 1 else 0)
            gate := (s.chan r).gate.map fun g => ⟨g.edges, g.ticks + 1⟩ })
        ∧ t.qh = { s.qh with framing := s.qh.framing.map fun f => { f with watch := f.watch + 1 } }
        ∧ t.dh = { s.dh with
            ticks := s.dh.ticks + 1
            position := if s.dh.frame = none then s.dh.position else min 384 (1 + (s.dh.ticks + 1) * 384 / 2500)
            slots := t.dh.slots }
        ∧ (∀ n : SlotNo, t.dhSlot n = slotAt n t.dh.position (s.dhSlot n))
        ∧ t.port = { s.port with
            transmit := s.port.transmit.map fun x =>
              if x.elapsed + 18 < 15625 then ⟨x.bytes, x.elapsed + 18, x.resetAtEnd⟩
              else ⟨x.bytes.drop 1, x.elapsed + 18 - 15625, x.resetAtEnd⟩
            byteWatch := s.port.byteWatch + (if s.port.receive = .hunt then 0 else 1) }
        ∧ t.refs = s.refs ∧ t.engine = s.engine ∧ t.queue = s.queue ∧ t.resetHeld = false ∧ t.pending = [])

/-- Every well-formed command answers a next state. That no command touches the queue of commands is the model's choice
(log 21): the spec has no such queue. -/
def Obligations.WellFormedCommandsTakePlace : Prop :=
  ∀ (c : Instr) (s : State), c.wellFormed = true → ∃ t : State, exec c s = .next t ∧ t.pending = s.pending

/-- A command that names a reference, shelf or slot outside its table faults by name: a choice of the model
(log 20). -/
def Obligations.NumbersOutsideTheirTablesFault : Prop :=
  ∀ (s : State) (n : Nat) (bits : Byte),
    (40 ≤ n → exec (.edge n) s = .fault .noSuchReference ∧ exec (.signalLost n) s = .fault .noSuchReference
      ∧ exec (.failTimerExpiry n) s = .fault .noSuchReference
      ∧ exec (.restoreTimerExpiry n) s = .fault .noSuchReference
      ∧ exec (.messageAgeExpiry n) s = .fault .noSuchReference
      ∧ ∀ h : ShelfNo, exec (.refusalMarkRunOut h.val n) s = .fault .noSuchReference)
    ∧ (32 ≤ n → exec (.cardSilenceExpiry n) s = .fault .noSuchShelf ∧ exec (.acquireExpiry n) s = .fault .noSuchShelf
      ∧ exec (.holdoverAging n) s = .fault .noSuchShelf
      ∧ ∀ r : Nat, exec (.refusalMarkRunOut n r) s = .fault .noSuchShelf)
    ∧ (48 ≤ n → exec (.wordReceived n bits) s = .fault .noSuchSlot)
    ∧ (32 ≤ n → exec (.commandBlockStart n) s = .fault .noSuchSlot)
    ∧ (n < 32 ∨ 48 ≤ n → exec (.qualityBlockStart n) s = .fault .noSuchSlot)

/-! ## Reset -/

/-- Every block at the values the spec gives for reset. -/
def Obligations.ResetStateHoldsTheSpecsValues : Prop :=
  State.reset.time.tickCount = 0 ∧ State.reset.time.officeTime = 0 ∧ State.reset.time.subTicks = 0
    ∧ State.reset.monitor.trim = 0
    ∧ (∀ r : RefNo, (State.reset.chan r).present = false ∧ (State.reset.chan r).pinHigh = false
        ∧ (State.reset.chan r).gate = none ∧ (State.reset.chan r).lastRaw = none
        ∧ (State.reset.chan r).saturated = false ∧ (State.reset.chan r).filtered = none
        ∧ (State.reset.chan r).freq = .unmeasured)
    ∧ (∀ r : RefNo, State.reset.ref r =
        ⟨⟨.unused, none, none, .fixed, 15, .a, 15, 4, 2, 18400, 2000, 25, 300, 5, 0b1111111#7⟩,
          ⟨.failed, true, none, none, none, none, 0, none, false, none⟩⟩)
    ∧ (∀ r : RefNo, State.reset.effectiveGrade r = 15)
    ∧ State.reset.refs.planA = State.reset.refs.planB
    ∧ State.reset.refs.planA.receive.toList = [15, 1, 2, 3, 4, 5, 6, 7, 8, 9, 10, 11, 12, 15, 15, 15]
    ∧ State.reset.refs.planA.send.toList = [1, 2, 3, 4, 5, 6, 7, 8, 9, 10, 11, 12, 15]
    ∧ State.reset.refs.persistence = 3
    ∧ State.reset.qh.framing = none ∧ State.reset.qh.missing = 0 ∧ State.reset.qh.pulseMode = .realign
    ∧ (∀ n : SlotNo, State.reset.assembler n = .hunt)
    ∧ State.reset.qh.checkErrors = 0 ∧ State.reset.qh.markErrors = 0 ∧ State.reset.qh.misroutes = 0
    ∧ (∀ h : ShelfNo, State.reset.shelf h =
        ⟨⟨false, 0b111#3, none, false, 12, 10, 600, 11, 12, 86400, 60, 0b1111111111111#13⟩, [], .vacant, none, true⟩)
    ∧ State.reset.engine.depthLimit = 4 ∧ State.reset.engine.silenceLimit = 3
    ∧ State.reset.engine.passPending = false ∧ State.reset.engine.pass = none ∧ State.reset.engine.passCount = 0
    ∧ State.reset.dh.enable = true ∧ State.reset.dh.position = 1
    ∧ (∀ n : SlotNo, (State.reset.dhSlot n).block = none) ∧ (∀ j : Fin 16, State.reset.dh.rotation[j] = none)
    ∧ State.reset.queue = ⟨[⟨.start .pin, 0, 0, 1⟩], .closed, 0, 0, 1, 0, true⟩
    ∧ State.reset.port.receive = .hunt ∧ State.reset.port.buffer = [] ∧ State.reset.port.transmit = none
    ∧ State.reset.port.mode = .normal

/-- The pin holds the part in reset and its release resets it; the end of a RESET reply resets it with cause REQUEST,
and the end of any other reply takes its frame out of the buffer; a reply ends once its last byte is out. While the pin
is asserted no other command has an effect. The sender's queue is kept, the pin's release needs no recorded assertion, a
command in reset changes nothing and a reply has no end before its last byte: the model's readings (logs 2, 12, 13, 14
and 21). -/
def Obligations.ResetsAndTheEndOfAReply : Prop :=
  (∀ s : State,
     exec .resetPinAsserted s = .next { State.reset with
       resetHeld := true
       pending := s.pending
       queue := { State.reset.queue with attention := false } }
     ∧ exec .resetPin s = .next { State.reset with pending := s.pending }
     ∧ (s.resetHeld = false → s.port.transmit = none → exec .replyEnd s = .next s)
     ∧ (∀ r : Sending, s.resetHeld = false → s.port.transmit = some r → r.bytes ≠ [] → exec .replyEnd s = .next s)
     ∧ (∀ r : Sending, s.resetHeld = false → s.port.transmit = some r → r.bytes = [] → r.resetAtEnd = false →
         exec .replyEnd s = .next { s with port := { s.port with buffer := s.port.buffer.drop 1, transmit := none } })
     ∧ (∀ r : Sending, s.resetHeld = false → s.port.transmit = some r → r.bytes = [] → r.resetAtEnd = true →
         exec .replyEnd s = .next { State.reset with
           pending := s.pending
           queue := { State.reset.queue with records := [⟨.start .request, 0, 0, 1⟩] } }))
  ∧ (∀ (c : Instr) (s : State), s.resetHeld = true → c.wellFormed = true → c ≠ .resetPin → c ≠ .resetPinAsserted →
       exec c s = .next s)

/-! ## The Time Base -/

/-- A tick event comes after 2,000,000 measurement ticks, every tenth is also a second event, and the second event
advances office time, reaches every timer counted in seconds whose expiry it brings office time to, the aging of a
holdover at its start plus the limit among them, and judges the age test of the attention line. That the two are taken
as two commands is the model's reading (log 4), and so is that a timer reached holds so until its event (log 5). -/
def Obligations.TickAndSecondEvents : Prop :=
  ∀ s : State, s.resetHeld = false →
    (2000000 ≤ s.time.subTicks → s.time.secondDue = false →
      exec .tickEvent s = .next { s with time :=
        ⟨0, s.time.tickCount + 1, decide ((s.time.tickCount + 1) % 10 = 0), s.time.officeTime⟩ })
    ∧ (s.time.subTicks < 2000000 ∨ s.time.secondDue = true → exec .tickEvent s = .next s)
    ∧ (s.time.secondDue = false → exec .secondEvent s = .next s)
    ∧ (s.time.secondDue = true → ∃ t : State, exec .secondEvent s = .next t
        ∧ t.time = { s.time with secondDue := false, officeTime := min (s.time.officeTime + 1) 4294967295 }
        ∧ (∀ r : RefNo, t.ref r = { s.ref r with run := { (s.ref r).run with
            restoreTimer := (s.ref r).run.restoreTimer.map (timerAt t.time.officeTime)
            messageAge := (s.ref r).run.messageAge.map (timerAt t.time.officeTime) } })
        ∧ (∀ h : ShelfNo, t.shelf h = { s.shelf h with
            silence := (s.shelf h).silence.map (timerAt t.time.officeTime)
            admission := (match (s.shelf h).admission with
              | .joined c =>
                .joined { c with timing := timingAt (s.shelf h).cfg.holdoverLimit t.time.officeTime c.timing }
              | x => x) })
        ∧ t.queue = { s.queue with attention := s.queue.attentionCondition t.time.officeTime }
        ∧ t.refs.planA = s.refs.planA ∧ t.refs.planB = s.refs.planB ∧ t.refs.persistence = s.refs.persistence
        ∧ t = { s with
            time := t.time
            refs := { s.refs with records := t.refs.records }
            engine := { s.engine with shelves := t.engine.shelves }
            queue := t.queue })

/-! ## The Frequency Monitor -/

/-- An edge is a high sample after a low one at the tick before. The edge that finds the signal LOST returns it and
starts a gate; an edge inside a gate is counted, at the tick at which the watch reaches 10,000 too. After 10,000
measurement ticks without an edge, once that tick has been sampled, the signal is lost: the gate and the filter are
dropped, the last raw offset and the saturation flag stay, and a defect begins. No edge is taken at a tick that has been
sampled, so none follows a loss at its own tick. That a high sample is a command, and that a step closes the sample of
the tick before a loss, are readings of the model (logs 6 and 33). -/
def Obligations.SignalsReturnAndAreLost : Prop :=
  (∀ (s : State) (r : RefNo), s.resetHeld = false →
     ((s.chan r).pinNow = true ∨ (s.chan r).sampleClosed = true → exec (.edge r.val) s = .next s)
     ∧ ((s.chan r).pinNow = false → (s.chan r).sampleClosed = false → (s.chan r).pinHigh = true →
         exec (.edge r.val) s = .next (s.setChan r { s.chan r with pinNow := true }))
     ∧ ((s.chan r).pinNow = false → (s.chan r).sampleClosed = false → (s.chan r).pinHigh = false →
         (s.chan r).present = false → (s.chan r).freq = .unmeasured →
         exec (.edge r.val) s = .next (s.setChan r { s.chan r with
           present := true
           pinNow := true
           edgeWatch := 0
           gate := some ⟨0, 0⟩ }))
     ∧ (∀ g : Gate, (s.chan r).pinNow = false → (s.chan r).sampleClosed = false → (s.chan r).pinHigh = false →
         (s.chan r).present = true → (s.chan r).gate = some g → g.edges + 1 < 8000 * (s.ref r).cfg.gateLength →
         exec (.edge r.val) s = .next (s.setChan r { s.chan r with
           pinNow := true
           edgeWatch := 0
           gate := some ⟨g.edges + 1, g.ticks⟩ })))
  ∧ (∀ (s : State) (r : RefNo), s.resetHeld = false →
       ((s.chan r).present = true → 10000 ≤ (s.chan r).edgeWatch → (s.chan r).sampleClosed = true →
         ∃ t : State, exec (.signalLost r.val) s = .next t
         ∧ (t.chan r).present = false ∧ (t.chan r).gate = none ∧ (t.chan r).filtered = none
         ∧ (t.chan r).freq = .unmeasured ∧ (t.chan r).pinHigh = (s.chan r).pinHigh
         ∧ (t.chan r).pinNow = (s.chan r).pinNow ∧ (t.chan r).sampleClosed = true
         ∧ (t.chan r).lastRaw = (s.chan r).lastRaw ∧ (t.chan r).saturated = (s.chan r).saturated
         ∧ (t.ref r).run = runAfter (s.ref r) s.time.tickCount s.now (s.defect r) true
         ∧ DefectOutcome r [] (s.defect r) true s t
         ∧ KeepsSettings s t ∧ KeepsIncoming s t ∧ KeepsOtherRefs r s t ∧ KeepsLists s t)
       ∧ ((s.chan r).present = false ∨ (s.chan r).edgeWatch < 10000 ∨ (s.chan r).sampleClosed = false →
         exec (.signalLost r.val) s = .next s))

/-- The edge that ends a gate computes the raw and the adjusted offset, each clamped, seeds or steps the filter, judges
the frequency state, posts REF_FREQ where it changes, starts the next gate and hands the change of defect on. -/
def Obligations.EndingEdgeCompletesTheGate : Prop :=
  ∀ (s : State) (r : RefNo) (g : Gate) (unclamped raw adjusted f : Int) (saturated : Bool) (q : FreqState),
    s.resetHeld = false → (s.chan r).pinNow = false → (s.chan r).pinHigh = false → (s.chan r).present = true →
    (s.chan r).sampleClosed = false → (s.chan r).gate = some g →
    8000 * (s.ref r).cfg.gateLength ≤ g.edges + 1 →
    unclamped = (20000000 * ((s.ref r).cfg.gateLength : Int) - (g.ticks : Int))
      * ((200 / (s.ref r).cfg.gateLength : Nat) : Int) →
    raw = max (-400000) (min 400000 unclamped) →
    adjusted = max (-400000) (min 400000 (raw + s.monitor.trim)) →
    saturated = (decide (400000 < unclamped.natAbs) || decide (400000 < (raw + s.monitor.trim).natAbs)) →
    f = (match (s.chan r).filtered with
      | some old =>
        if (s.chan r).freq = .unmeasured ∨ saturated = true then adjusted
        else old + filterStep (adjusted - old) (s.ref r).cfg.filterShift
      | none => adjusted) →
    q = qualify (s.chan r).freq saturated f (s.ref r).cfg.pullLimit (s.ref r).cfg.hysteresis →
    ∃ t : State, exec (.edge r.val) s = .next t
      ∧ t.chan r = ⟨true, false, true, 0, false, some ⟨0, 0⟩, some raw, saturated, some f, q⟩
      ∧ (t.ref r).run = runAfter (s.ref r) s.time.tickCount s.now (s.defect r) (t.defect r)
      ∧ DefectOutcome r (if (s.chan r).freq = q then [] else [.refFreq r (q == .inRange)]) (s.defect r) (t.defect r) s t
      ∧ KeepsSettings s t ∧ KeepsIncoming s t ∧ KeepsOtherRefs r s t ∧ KeepsLists s t

/-- R36: the step is the quotient rounded to the nearest integer with halves away from zero, the new F lies between
the old F and the adjusted offset, and F stays within ±400,000. -/
def Obligations.FilterStepsByTheRoundedQuotient : Prop :=
  (∀ (d : Int) (k : Nat),
    filterStep d k = d.sign * (filterStep d k).natAbs
    ∧ 2 ^ k * (2 * (filterStep d k).natAbs) ≤ 2 * d.natAbs + 2 ^ k
    ∧ 2 * d.natAbs + 2 ^ k < 2 ^ k * (2 * (filterStep d k).natAbs + 2)
    ∧ (filterStep d k).natAbs ≤ d.natAbs
    ∧ (k = 0 → filterStep d k = d)
    ∧ (1 ≤ k → 2 * d.natAbs < 2 ^ k → filterStep d k = 0))
  ∧ filterStep 3 1 = 2 ∧ filterStep (-1) 1 = -1 ∧ filterStep 5 1 = 3
  ∧ ∀ (c : Channel) (cfg : RefConfig) (trim : Int) (ticks : Nat) (old adjusted : Int), c.freq ≠ .unmeasured →
      c.filtered = some old → (c.complete cfg trim ticks).saturated = false →
      adjusted = max (-400000) (min 400000 (rawOffset cfg.gateLength ticks)) + trim →
      ∃ new, (c.complete cfg trim ticks).filtered = some new
        ∧ new = old + filterStep (adjusted - old) cfg.filterShift
        ∧ min old adjusted ≤ new ∧ new ≤ max old adjusted
        ∧ (old.natAbs ≤ 400000 → new.natAbs ≤ 400000)

/-- R37 whole: at the edge that ends a gate, the qualification table on the new filtered offset. -/
def Obligations.GateQualification : Prop :=
  ∀ (s : State) (r : RefNo) (g : Gate), s.resetHeld = false → (s.chan r).pinNow = false →
    (s.chan r).pinHigh = false → (s.chan r).present = true → (s.chan r).sampleClosed = false →
    (s.chan r).gate = some g → 8000 * (s.ref r).cfg.gateLength ≤ g.edges + 1 →
    ∃ (t : State) (f : Int), exec (.edge r.val) s = .next t ∧ (t.chan r).filtered = some f
      ∧ ((t.chan r).saturated = true → (t.chan r).freq = .outOfRange)
      ∧ ((t.chan r).saturated = false → (s.chan r).freq = .unmeasured ∨ (s.chan r).freq = .inRange →
          (s.ref r).cfg.pullLimit < f.natAbs → (t.chan r).freq = .outOfRange)
      ∧ ((t.chan r).saturated = false → (s.chan r).freq = .unmeasured ∨ (s.chan r).freq = .inRange →
          f.natAbs ≤ (s.ref r).cfg.pullLimit → (t.chan r).freq = .inRange)
      ∧ ((t.chan r).saturated = false → (s.chan r).freq = .outOfRange →
          (f.natAbs : Int) ≤ (s.ref r).cfg.pullLimit - (s.ref r).cfg.hysteresis → (t.chan r).freq = .inRange)
      ∧ ((t.chan r).saturated = false → (s.chan r).freq = .outOfRange →
          ((s.ref r).cfg.pullLimit : Int) - (s.ref r).cfg.hysteresis < f.natAbs → (t.chan r).freq = .outOfRange)
      ∧ (t.chan r).freq ≠ .unmeasured

/-! ## Availability -/

/-- The fail timer makes a FAILING reference FAILED with detail TIMER and takes its shelves off it; the restore timer
makes a RESTORING reference AVAILABLE with detail RESTORED, and CLEAR RESTORE with detail CLEARED, refused with BAD_INDEX
for a reference the part does not have. -/
def Obligations.TimersEndFailingAndRestoring : Prop :=
  (∀ (s : State) (r : RefNo), s.resetHeld = false →
     (∀ n : Nat, (s.ref r).run.availability = .failing → (s.ref r).run.failTimer = some n → n ≤ s.time.tickCount →
       ∃ t : State, exec (.failTimerExpiry r.val) s = .next t
         ∧ (t.ref r).run = { (s.ref r).run with availability := .failed, failTimer := none, restoreTimer := none }
         ∧ (∀ h : ShelfNo, t.shelf h = shelfOff s r h) ∧ t.engine.passPending = true
         ∧ t.queue = (s.postAll (.refFailed r .timer :: allShelves.flatMap (offReports s r) ++ gradeReports s t)).queue
         ∧ t.monitor = s.monitor ∧ KeepsSettings s t ∧ KeepsIncoming s t ∧ KeepsOtherRefs r s t ∧ KeepsLists s t)
     ∧ ((s.ref r).run.availability ≠ .failing ∨ (s.ref r).run.failTimer = none
         ∨ (∃ n, (s.ref r).run.failTimer = some n ∧ s.time.tickCount < n) → exec (.failTimerExpiry r.val) s = .next s)
     ∧ (∀ x : Nat, (s.ref r).run.availability = .restoring → (s.ref r).run.restoreTimer = some ⟨x, true⟩ →
         exec (.restoreTimerExpiry r.val) s = .next (State.post (.refAvailable r .restored) (State.leavePassPending
           (s.setRef r { s.ref r with run := { (s.ref r).run with
             availability := .available
             failTimer := none
             restoreTimer := none } }))))
     ∧ ((s.ref r).run.availability ≠ .restoring ∨ (s.ref r).run.restoreTimer = none
         ∨ (∃ x, (s.ref r).run.restoreTimer = some ⟨x, false⟩) → exec (.restoreTimerExpiry r.val) s = .next s))
  ∧ (∀ (s : State) (f : Frame) (r : RefNo), s.asks 3 f → f.body = put8 r.val →
       ((s.ref r).run.availability = .restoring →
         exec .clearRestore s = .next ((State.post (.refAvailable r .cleared) (State.leavePassPending
           (s.setRef r { s.ref r with run := { (s.ref r).run with
             availability := .available
             failTimer := none
             restoreTimer := none } }))).replying f .ok false (put8 0)))
       ∧ ((s.ref r).run.availability ≠ .restoring →
         exec .clearRestore s = .next (s.replying f .ok false (put8 (s.ref r).run.availability.code))))
  ∧ (∀ (s : State) (f : Frame) (n : Nat), s.asks 3 f → f.body = put8 n → 40 ≤ n → n ≤ 255 →
       exec .clearRestore s = .next (s.replying f .badIndex false []))

/-! ## Grades -/

/-- The effective grade of a reference, and the traced grade and the root of a shelf: where no chain returns to
itself, each row of the tables of grades. -/
def Obligations.GradesAndRoots : Prop :=
  ∀ s : State,
    (∀ r : RefNo, (s.ref r).cfg.kind ≠ .feed →
      (∀ g, (s.ref r).run.override = some g → s.effectiveGrade r = g)
      ∧ ((s.ref r).run.override = none →
          ((s.ref r).cfg.gradeSource ≠ .message → s.effectiveGrade r = (s.ref r).cfg.fixedGrade)
          ∧ ((s.ref r).cfg.gradeSource = .message → (s.ref r).run.adopted = none →
              s.effectiveGrade r = (s.ref r).cfg.staleGrade)
          ∧ ∀ c : Code, (s.ref r).cfg.gradeSource = .message → (s.ref r).run.adopted = some c →
              s.effectiveGrade r = (s.plan (s.ref r).cfg.codePlan).receive[c]))
    ∧ (∀ (r : RefNo) (h : ShelfNo), (s.ref r).cfg.kind = .feed → (s.ref r).cfg.homeShelf = some h →
        s.effectiveGrade r = s.tracedGrade h)
    ∧ (s.chainsSound → ∀ h : ShelfNo,
        ((s.shelf h).isJoined = false → s.tracedGrade h = 15 ∧ s.root h = none)
        ∧ (∀ r since, (s.shelf h).timing = some (.locked r since) → s.tracedGrade h = s.effectiveGrade r
            ∧ ((s.ref r).cfg.kind ≠ .feed → s.root h = some r)
            ∧ ∀ k : ShelfNo, (s.ref r).cfg.kind = .feed → (s.ref r).cfg.homeShelf = some k → s.root h = s.root k)
        ∧ (∀ r o x, (s.shelf h).timing = some (.acquire r o x) → s.root h = none
            ∧ (∀ fallback carried, o = .locked fallback carried → s.tracedGrade h = carried)
            ∧ (∀ p : Holdover, o = .holdover p → s.tracedGrade h =
                if p.aged then (s.shelf h).cfg.freeRunGrade else (s.shelf h).cfg.holdoverGrade)
            ∧ (o = .freeRun → s.tracedGrade h = (s.shelf h).cfg.freeRunGrade))
        ∧ (∀ p : Holdover, (s.shelf h).timing = some (.holdover p) → s.root h = none ∧ s.tracedGrade h =
            if p.aged then (s.shelf h).cfg.freeRunGrade else (s.shelf h).cfg.holdoverGrade)
        ∧ ((s.shelf h).timing = some .freeRun →
            s.root h = none ∧ s.tracedGrade h = (s.shelf h).cfg.freeRunGrade))

/-- R64's table: a code handed to the persistence filter, line by line. -/
def Obligations.PersistenceFilter : Prop :=
  ∀ (n : Nat) (c : Code) (x : RefRunning), 1 ≤ n →
    (x.adopted = some c → x.persist n c = { x with candidate := none, candidateCount := 0 })
    ∧ (x.adopted ≠ some c → x.candidate = some c → n ≤ x.candidateCount + 1 →
        x.persist n c = { x with adopted := some c, candidate := none, candidateCount := 0 })
    ∧ (x.adopted ≠ some c → x.candidate = some c → x.candidateCount + 1 < n →
        x.persist n c = { x with candidateCount := x.candidateCount + 1 })
    ∧ (x.adopted ≠ some c → x.candidate ≠ some c → n = 1 →
        x.persist n c = { x with adopted := some c, candidate := none, candidateCount := 0 })
    ∧ (x.adopted ≠ some c → x.candidate ≠ some c → 2 ≤ n →
        x.persist n c = { x with candidate := some c, candidateCount := 1 })

/-- The message age expiry drops the adopted code and the candidate, posts REF_STALE, clears the card defect flag and
hands the end of a defect on. That the REF_GRADE of the reference stands before those of the FEEDs regraded in the same
event is the model's reading (log 16). -/
def Obligations.MessageAgeExpiryMakesTheGradeStale : Prop :=
  ∀ (s : State) (r : RefNo), s.resetHeld = false →
    (∀ x : Nat, (s.ref r).run.messageAge = some ⟨x, true⟩ → ∃ t : State, exec (.messageAgeExpiry r.val) s = .next t
      ∧ (t.ref r).run = { runAfter (s.ref r) s.time.tickCount s.now (s.defect r) (t.defect r) with
          messageAge := none
          adopted := none
          candidate := none
          candidateCount := 0
          cardDefect := false }
      ∧ DefectOutcome r [.refStale r] (s.defect r) (t.defect r) s t
      ∧ t.monitor = s.monitor ∧ KeepsSettings s t ∧ KeepsIncoming s t ∧ KeepsOtherRefs r s t ∧ KeepsLists s t)
    ∧ ((s.ref r).run.messageAge = none ∨ (∃ x, (s.ref r).run.messageAge = some ⟨x, false⟩) →
        exec (.messageAgeExpiry r.val) s = .next s)

/-! ## The Quality Highway -/

/-- At the expected position, which comes after bit 384 of a frame, a pulse sets the count of missing pulses to 0 and its
absence raises it; a frame watch of 3,750 counts a missing pulse and expects the next bit as bit 1; the eighth miss in a
row loses the highway. Before the expected position no frame starts by it (log 2), and after a run-out the miss of the
next frame start has been counted (log 8). -/
def Obligations.MissingPulsesAreCounted : Prop :=
  (∀ s : State, s.resetHeld = false →
     (∀ (pulse : Bool), s.qh.framing = none → exec (.qhFrameStart pulse) s = .next s)
     ∧ ∀ f : Framing, s.qh.framing = some f →
       (f.position < 384 → ∀ pulse : Bool, exec (.qhFrameStart pulse) s = .next s)
       ∧ (384 ≤ f.position → exec (.qhFrameStart true) s
           = .next { s with qh := { s.qh with framing := some ⟨1, 0, false⟩, missing := 0 } })
       ∧ (384 ≤ f.position → f.missCounted = true →
           exec (.qhFrameStart false) s = .next { s with qh := { s.qh with framing := some ⟨1, 0, false⟩ } })
       ∧ (384 ≤ f.position → f.missCounted = false → s.qh.missing < 7 →
           exec (.qhFrameStart false) s = .next { s with qh := { s.qh with
             framing := some ⟨1, 0, false⟩
             missing := s.qh.missing + 1 } })
       ∧ (384 ≤ f.position → f.missCounted = false → 7 ≤ s.qh.missing →
           exec (.qhFrameStart false) s = .next (State.post .qhLost { s with qh := { s.qh with
             framing := none
             missing := 8
             assemblers := Vector.replicate 48 .hunt } })))
  ∧ (∀ s : State, s.resetHeld = false →
       (∀ f : Framing, s.qh.framing = some f → 3750 ≤ f.watch → s.qh.missing < 7 →
         exec .frameWatchRunOut s = .next { s with qh := { s.qh with
           framing := some ⟨384, 0, true⟩
           missing := s.qh.missing + 1 } })
       ∧ (∀ f : Framing, s.qh.framing = some f → 3750 ≤ f.watch → 7 ≤ s.qh.missing →
         exec .frameWatchRunOut s = .next (State.post .qhLost { s with qh := { s.qh with
           framing := none
           missing := 8
           assemblers := Vector.replicate 48 .hunt } }))
       ∧ (s.qh.framing = none ∨ (∃ f, s.qh.framing = some f ∧ f.watch < 3750) → exec .frameWatchRunOut s = .next s))

/-- An unexpected pulse restarts the frame in REALIGN, with every assembler in HUNT and QH_SYNC, and is disregarded in
IGNORE; in LOST the first pulse makes the highway ALIGNED in either mode. A word is taken only while ALIGNED, within a
frame and in the turn of its slot. A pulse on the expected position is never unexpected, on the first bit after a run-out
(log 8) as after bit 384. -/
def Obligations.OtherPulsesAndLostFrames : Prop :=
  (∀ s : State, s.resetHeld = false →
     (∀ f : Framing, s.qh.framing = some f → s.qh.pulseMode = .realign → f.position < 384 →
       exec .qhSync s = .next (State.post .qhSync { s with qh := { s.qh with
         framing := some ⟨1, 0, false⟩
         missing := 0
         assemblers := Vector.replicate 48 .hunt } }))
     ∧ (s.qh.framing = none ∨ s.qh.pulseMode = .ignore ∨ (∃ f, s.qh.framing = some f ∧ 384 ≤ f.position) →
       exec .qhSync s = .next s)
     ∧ (s.qh.framing = none → exec .qhRecovered s = .next (State.post .qhRecovered { s with qh := { s.qh with
         framing := some ⟨1, 0, false⟩
         missing := 0 } }))
     ∧ (s.qh.framing ≠ none → exec .qhRecovered s = .next s))
  ∧ (∀ (s : State) (n : SlotNo) (bits : Byte),
       s.qh.framing = none ∨ (∃ f, s.qh.framing = some f ∧ (384 ≤ f.position ∨ f.position / 8 ≠ n.val)) →
         exec (.wordReceived n.val bits) s = .next s)

/-- A word goes to the assembler of its slot: an unmarked one is passed over in HUNT and collected in COLLECT, a
marked one opens a block by its tag, abandoning an unfinished one with a mark error, and a tag that names nothing is a
misroute. A word completes in the turn of its slot and leaves the position at the slot's last bit; bits inside a word are
not stepped (log 7). -/
def Obligations.WordsAreCollectedIntoBlocks : Prop :=
  ∀ (s u v : State) (n : SlotNo) (f : Framing) (value : WordValue), s.resetHeld = false →
    s.qh.framing = some f → f.position < 384 → f.position / 8 = n.val →
    u = { s with qh := { s.qh with framing := some ⟨8 * n.val + 8, f.watch, f.missCounted⟩ } } →
    v = (match s.assembler n with
      | .hunt => u
      | .collect _ _ => State.post (.qhCheck n) { u with qh := { u.qh with
          markErrors := min (s.qh.markErrors + 1) 65535 } }) →
    (s.assembler n = .hunt → exec (.wordReceived n.val (BitVec.cons false value)) s = .next u)
    ∧ (∀ length words, s.assembler n = .collect length words → words.length + 1 < length →
        exec (.wordReceived n.val (BitVec.cons false value)) s
          = .next (u.setAssembler n (.collect length (words ++ [value]))))
    ∧ (value.toNat < 40 →
        exec (.wordReceived n.val (BitVec.cons true value)) s = .next (v.setAssembler n (.collect 4 [value])))
    ∧ (64 ≤ value.toNat → value.toNat < 96 →
        exec (.wordReceived n.val (BitVec.cons true value)) s = .next (v.setAssembler n (.collect 5 [value])))
    ∧ ((40 ≤ value.toNat ∧ value.toNat < 64) ∨ 96 ≤ value.toNat →
        exec (.wordReceived n.val (BitVec.cons true value)) s
          = .next (State.post (.qhMisroute value.toNat) ({ v with qh := { v.qh with
              misroutes := min (s.qh.misroutes + 1) 65535 } }.setAssembler n .hunt)))

/-- A reference status block yields a quality code and a card defect flag, a shelf report block a card report, where
reverse tag, check word and contents are good, and no other block yields anything. A complete block that is not good
counts a check error and posts QH_CHECK, one that is good but not bound to its slot counts a misroute and posts
QH_MISROUTE, and neither reaches a record. -/
def Obligations.BlocksAreCheckedAndRouted : Prop :=
  ((∀ tag reverse status check : Nat,
     (∀ (r : RefNo), tag = r.val → reverse = 127 - tag → check = (tag + 2 * reverse + 3 * status) % 128 →
       ∃ code : Code, code.val = status % 16
         ∧ blockContents [tag, reverse, status, check] = some (.status r code (status.testBit 4)))
     ∧ (40 ≤ tag ∨ reverse ≠ 127 - tag ∨ check ≠ (tag + 2 * reverse + 3 * status) % 128 →
       blockContents [tag, reverse, status, check] = none))
   ∧ ∀ tag reverse kind argument check : Nat,
     (∀ (h : ShelfNo), tag = 64 + h.val → reverse = 127 - tag →
       check = (tag + 2 * reverse + 3 * kind + 4 * argument) % 128 →
       (kind = 1 → argument = 1 → blockContents [tag, reverse, kind, argument, check] = some (.card h (.announce .a)))
       ∧ (kind = 1 → argument = 2 →
           blockContents [tag, reverse, kind, argument, check] = some (.card h (.announce .b)))
       ∧ (kind = 1 → argument = 3 →
           blockContents [tag, reverse, kind, argument, check] = some (.card h (.announce .c)))
       ∧ (∀ r : RefNo, kind = 2 → argument = r.val →
           blockContents [tag, reverse, kind, argument, check] = some (.card h (.acquiring r)))
       ∧ (∀ r : RefNo, kind = 3 → argument = r.val →
           blockContents [tag, reverse, kind, argument, check] = some (.card h (.tracking r)))
       ∧ (kind = 4 → blockContents [tag, reverse, kind, argument, check] = some (.card h .free))
       ∧ (kind = 5 → blockContents [tag, reverse, kind, argument, check] = some (.card h .withdraw)))
     ∧ (tag < 64 ∨ 96 ≤ tag ∨ reverse ≠ 127 - tag ∨ check ≠ (tag + 2 * reverse + 3 * kind + 4 * argument) % 128
         ∨ kind = 0 ∨ 6 ≤ kind ∨ (kind = 1 ∧ (argument = 0 ∨ 4 ≤ argument))
         ∨ ((kind = 2 ∨ kind = 3) ∧ 40 ≤ argument) →
       blockContents [tag, reverse, kind, argument, check] = none))
  ∧ (∀ (s u : State) (n : SlotNo) (f : Framing) (length : Nat) (words : List WordValue) (value : WordValue),
       s.resetHeld = false → s.qh.framing = some f → f.position < 384 → f.position / 8 = n.val →
       s.assembler n = .collect length words → length = words.length + 1 →
       u = { s with qh := { s.qh with
         framing := some ⟨8 * n.val + 8, f.watch, f.missCounted⟩
         assemblers := s.qh.assemblers.set n .hunt } } →
       (blockContents ((words ++ [value]).map (·.toNat)) = none →
         exec (.wordReceived n.val (BitVec.cons false value)) s
           = .next (State.post (.qhCheck n)
               { u with qh := { u.qh with checkErrors := min (s.qh.checkErrors + 1) 65535 } }))
       ∧ (∀ r code defect, blockContents ((words ++ [value]).map (·.toNat)) = some (.status r code defect) →
         (s.ref r).cfg.slot ≠ some n →
         exec (.wordReceived n.val (BitVec.cons false value)) s
           = .next (State.post (.qhMisroute r.val) { u with qh := { u.qh with
               misroutes := min (s.qh.misroutes + 1) 65535 } }))
       ∧ (∀ h rep, blockContents ((words ++ [value]).map (·.toNat)) = some (.card h rep) →
         (s.shelf h).cfg.reportSlot ≠ some n →
         exec (.wordReceived n.val (BitVec.cons false value)) s
           = .next (State.post (.qhMisroute (64 + h.val)) { u with qh := { u.qh with
               misroutes := min (s.qh.misroutes + 1) 65535 } })))

/-- A delivered status block renews the message age, then hands its card defect flag on, and then puts its quality
code through the persistence filter where the grade source is MESSAGE, each step with its full effect before the
next. That the REF_GRADE of the reference stands before those of the FEEDs it regrades is the model's reading (log
16). -/
def Obligations.StatusBlocksAreDelivered : Prop :=
  ∀ (s : State) (n : SlotNo) (f : Framing) (length : Nat) (words : List WordValue) (value : WordValue) (r : RefNo)
    (code : Code) (defect : Bool),
    s.resetHeld = false → s.qh.framing = some f → f.position < 384 → f.position / 8 = n.val →
    s.assembler n = .collect length words → length = words.length + 1 →
    blockContents ((words ++ [value]).map (·.toNat)) = some (.status r code defect) →
    (s.ref r).cfg.slot = some n →
    ∃ u t : State, exec (.wordReceived n.val (BitVec.cons false value)) s = .next t
      ∧ (u.ref r).run = { runAfter (s.ref r) s.time.tickCount s.now (s.defect r) (u.defect r) with
          messageAge := some ⟨min (s.now + (s.ref r).cfg.messageAgeLimit) 4294967295, false⟩
          cardDefect := defect }
      ∧ DefectOutcome r [] (s.defect r) (u.defect r) s u
      ∧ u.qh = { s.qh with
          framing := some ⟨8 * n.val + 8, f.watch, f.missCounted⟩
          assemblers := s.qh.assemblers.set n .hunt }
      ∧ u.port = s.port ∧ u.monitor = s.monitor ∧ KeepsSettings s u ∧ KeepsOtherRefs r s u ∧ KeepsLists s u
      ∧ (t.ref r).run =
          (if (s.ref r).cfg.gradeSource = .message then (u.ref r).run.persist s.refs.persistence code
            else (u.ref r).run)
      ∧ t.queue = (u.postAll (gradeReports u t)).queue
      ∧ t.engine = { u.engine with passPending := u.engine.passPending || !(gradeReports u t).isEmpty }
      ∧ t.qh = u.qh ∧ t.port = u.port ∧ t.monitor = u.monitor ∧ KeepsSettings u t ∧ KeepsOtherRefs r u t

/-- A delivered card report renews the card silence of its shelf and is taken by the tables of admission, restart,
tracking and loss of lock. That a card restart keeps the proposed reference, and that one in FREE_RUN leaves no pass
pending, are the model's readings (log 28). -/
def Obligations.CardReportsAreDelivered : Prop :=
  ∀ (s : State) (n : SlotNo) (f : Framing) (length : Nat) (words : List WordValue) (value : WordValue) (h : ShelfNo)
    (rep : CardReport),
    s.resetHeld = false → s.qh.framing = some f → f.position < 384 → f.position / 8 = n.val →
    s.assembler n = .collect length words → length = words.length + 1 →
    blockContents ((words ++ [value]).map (·.toNat)) = some (.card h rep) →
    (s.shelf h).cfg.reportSlot = some n →
    ∃ t : State, exec (.wordReceived n.val (BitVec.cons false value)) s = .next t
      ∧ t.shelf h = { (cardOutcome s h rep).1 with
          silence := some ⟨min (s.now + s.engine.silenceLimit) 4294967295, false⟩ }
      ∧ t.queue = (s.postAll ((cardOutcome s h rep).2 ++ gradeReports s t)).queue
      ∧ PassAfter h s t
      ∧ t.qh = { s.qh with
          framing := some ⟨8 * n.val + 8, f.watch, f.missCounted⟩
          assemblers := s.qh.assemblers.set n .hunt }
      ∧ t.port = s.port ∧ t.monitor = s.monitor ∧ t.refs = s.refs ∧ KeepsSettings s t ∧ KeepsOtherShelves h s t

/-! ## The Selection Engine: timed events of a shelf -/

/-- A card silent for its limit vacates its shelf, with CARD_SILENT where the shelf was not VACANT; a refusal mark that
has run out leaves a pass pending and posts nothing. -/
def Obligations.SilencesAndRefusalMarksRunOut : Prop :=
  (∀ (s : State) (h : ShelfNo), s.resetHeld = false →
     (∀ x : Nat, (s.shelf h).silence = some ⟨x, true⟩ → ∃ t : State, exec (.cardSilenceExpiry h.val) s = .next t
       ∧ t.shelf h = { s.shelf h with silence := none, admission := .vacant }
       ∧ t.queue = (s.postAll ((if (s.shelf h).admission = .vacant then [] else [.cardSilent h])
           ++ gradeReports s t)).queue
       ∧ PassAfter h s t ∧ OnlyShelf h s t)
     ∧ ((s.shelf h).silence = none ∨ (∃ x, (s.shelf h).silence = some ⟨x, false⟩) →
         exec (.cardSilenceExpiry h.val) s = .next s))
  ∧ (∀ (s : State) (h : ShelfNo) (r : RefNo), s.resetHeld = false →
       (∀ e : Candidate, (s.shelf h).entry r = some e → e.armed = true → e.refusedUntil ≤ s.now →
         exec (.refusalMarkRunOut h.val r.val) s = .next (State.leavePassPending (s.setShelf h { s.shelf h with
           candidates := (s.shelf h).candidates.map fun e => if e.ref = r then { e with armed := false } else e })))
       ∧ ((s.shelf h).entry r = none
           ∨ (∃ e, (s.shelf h).entry r = some e ∧ (e.armed = false ∨ s.now < e.refusedUntil)) →
           exec (.refusalMarkRunOut h.val r.val) s = .next s))

/-- An acquisition that runs out sets the refusal mark of its target, posts ACQUIRE_TIMEOUT and SHELF_STATE, and goes to
its fallback; a holdover past its limit is aged, with HOLDOVER_AGED and a pass pending. -/
def Obligations.AcquisitionsRunOutAndHoldoversAge : Prop :=
  (∀ (s : State) (h : ShelfNo), s.resetHeld = false →
     (∀ (r : RefNo) (o : Origin) (x : Nat), (s.shelf h).timing = some (.acquire r o ⟨x, true⟩) →
       ∃ t : State, exec (.acquireExpiry h.val) s = .next t
         ∧ t.shelf h = { (s.shelf h).withTiming (fallbackOf s h (.acquire r o ⟨x, true⟩)) with
             candidates := markedEntries s h r }
         ∧ t.queue = (s.postAll ([.acquireTimeout h r, .shelfState h (fallbackOf s h (.acquire r o ⟨x, true⟩)).name]
             ++ gradeReports s t)).queue
         ∧ t.engine.passPending = true ∧ OnlyShelf h s t)
     ∧ ((∀ r o x, (s.shelf h).timing ≠ some (.acquire r o ⟨x, true⟩)) → exec (.acquireExpiry h.val) s = .next s))
  ∧ (∀ (s : State) (h : ShelfNo), s.resetHeld = false →
       (∀ (timing : Timing) (o : Holdover), (s.shelf h).timing = some timing → timing.heldOver = some o →
         (s.shelf h).cfg.holdoverLimit ≠ 0 → o.aged = false → o.reached = true →
         ∃ t : State, exec (.holdoverAging h.val) s = .next t
           ∧ t.shelf h = (s.shelf h).withTiming (agedTiming timing)
           ∧ t.queue = (s.postAll (.holdoverAged h :: gradeReports s t)).queue
           ∧ t.engine.passPending = true ∧ OnlyShelf h s t)
       ∧ ((∀ timing o, (s.shelf h).timing = some timing → timing.heldOver = some o →
           (s.shelf h).cfg.holdoverLimit = 0 ∨ o.aged = true ∨ o.reached = false) →
           exec (.holdoverAging h.val) s = .next s))

/-! ## Evaluation passes -/

/-- A pass starts where the pending flag is set and the engine is IDLE: it lists the JOINED shelves that are not in
ACQUIRE, by depth and then by number. It ends clean, dirty, or dirty for the eighth time with EVAL_LIMIT. -/
def Obligations.PassesStartAndEnd : Prop :=
  (∀ s : State, s.resetHeld = false →
     (s.engine.passPending = true → s.engine.pass = none → ∃ visits : List ShelfNo,
       exec .passStart s = .next { s with engine := { s.engine with
         passPending := false
         pass := some ⟨visits, 0⟩
         passCount := s.engine.passCount + 1 } }
       ∧ (∀ h : ShelfNo, h ∈ visits ↔ (s.shelf h).isJoined = true ∧ (s.shelf h).acquiring = false)
       ∧ visits.Pairwise fun a b => s.depth a < s.depth b ∨ (s.depth a = s.depth b ∧ a < b))
     ∧ (s.engine.passPending = false ∨ s.engine.pass ≠ none → exec .passStart s = .next s))
  ∧ (∀ s : State, s.resetHeld = false →
       (∀ p : Pass, s.engine.pass = some p → p.visits.length ≤ p.position →
         (s.engine.passPending = false →
           exec .passEnd s = .next { s with engine := { s.engine with pass := none, passCount := 0 } })
         ∧ (s.engine.passPending = true → s.engine.passCount < 8 →
           exec .passEnd s = .next { s with engine := { s.engine with pass := none } })
         ∧ (s.engine.passPending = true → 8 ≤ s.engine.passCount →
           exec .passEnd s = .next (State.post .evalLimit { s with engine := { s.engine with
             pass := none
             passPending := false
             passCount := 0 } })))
       ∧ (s.engine.pass = none ∨ (∃ p, s.engine.pass = some p ∧ p.position < p.visits.length) →
           exec .passEnd s = .next s))

/-- The visit of an unheld shelf: a manual request that is not eligible is dropped, the proposed reference is cleared
and the choice is applied by the table of R104. The visit of a held shelf records the choice as its proposed reference
and changes nothing else. A shelf that is not JOINED at its visit or is in ACQUIRE is passed over, and with no visit to
come the command changes nothing. That a listed shelf which left JOINED and joined again before its visit is visited is
the model's choice (log 37). -/
def Obligations.VisitsApplyOrProposeTheChoice : Prop :=
  (∀ (s u : State) (p : Pass) (h : ShelfNo), s.resetHeld = false → s.engine.pass = some p →
     p.visits[p.position]? = some h →
     u = { s with engine := { s.engine with pass := some ⟨p.visits, p.position + 1⟩ } } →
     ((s.shelf h).isJoined = false ∨ (s.shelf h).acquiring = true → exec .passVisit s = .next u)
     ∧ (∀ c : JoinedCard, (s.shelf h).admission = .joined c → (s.shelf h).acquiring = false → (s.shelf h).hold = false →
         ∃ t : State, exec .passVisit s = .next t
           ∧ t.shelf h = { s.shelf h with admission := .joined { c with
               timing := visitOutcome s h (s.choice h) c.timing
               request := (match c.request with
                 | .manual r => if s.eligibleRef h r then .manual r else .none
                 | x => x)
               proposed := none } }
           ∧ t.queue = (s.postAll ((match c.request with
                 | .manual r => if s.eligibleRef h r then [] else [.manualDropped h r]
                 | _ => [])
               ++ (if visitOutcome s h (s.choice h) c.timing = c.timing then []
                 else [.shelfState h (visitOutcome s h (s.choice h) c.timing).name])
               ++ gradeReports s t)).queue
           ∧ t.engine.passPending = (s.engine.passPending || decide ((t.shelf h).request ≠ c.request)
               || decide ((t.shelf h).timing ≠ some c.timing) || !(gradeReports s t).isEmpty)
           ∧ KeepsIncoming u t ∧ KeepsSettings u t ∧ t.monitor = s.monitor ∧ t.refs = s.refs ∧ KeepsOtherShelves h s t))
  ∧ (∀ (s : State), s.resetHeld = false →
       (∀ (p : Pass) (h : ShelfNo) (c : JoinedCard), s.engine.pass = some p → p.visits[p.position]? = some h →
         (s.shelf h).admission = .joined c → (s.shelf h).acquiring = false → (s.shelf h).hold = true →
         exec .passVisit s = .next ({ s with engine := { s.engine with
           pass := some ⟨p.visits, p.position + 1⟩ } }.setShelf h { s.shelf h with
             admission := .joined { c with proposed := s.choice h } }))
       ∧ (s.engine.pass = none → exec .passVisit s = .next s)
       ∧ (∀ p : Pass, s.engine.pass = some p → p.visits.length ≤ p.position → exec .passVisit s = .next s))

/-! ## The choice -/

/-- R102 whole: the choice of a revertive shelf is the eligible candidate of the best grade that stands earliest; it
leaves a reference for any better one and for an equal one that stands earlier. -/
def Obligations.RevertiveChoiceIsTheEarliestBest : Prop :=
  ∀ (s : State) (h : ShelfNo), (s.shelf h).cfg.revertive = true →
    (s.autoChoice h = none ↔ s.eligibleRefs h = [])
    ∧ (∀ r : RefNo, s.autoChoice h = some r → ∃ before after : List RefNo, s.eligibleRefs h = before ++ r :: after
        ∧ (∀ x ∈ before, s.effectiveGrade r < s.effectiveGrade x)
        ∧ ∀ x ∈ after, s.effectiveGrade r ≤ s.effectiveGrade x)
    ∧ (∀ r x : RefNo, x ∈ s.eligibleRefs h → s.effectiveGrade x < s.effectiveGrade r → s.autoChoice h ≠ some r)
    ∧ (∀ (r x : RefNo) (before after : List RefNo), s.eligibleRefs h = before ++ r :: after → r ∉ before →
        x ∈ before → s.effectiveGrade x = s.effectiveGrade r → s.autoChoice h ≠ some r)

/-- An entry is eligible under the three conditions of R99, and a FEED under the four of R100 besides; the candidates
chosen from are the eligible ones in list order, and a reference is eligible where the entry that names it is. A
revertive shelf takes the earliest of the best; a non-revertive shelf stays LOCKED on an eligible reference that no
candidate beats and otherwise chooses as a revertive one; FORCED and MANUAL requests choose their target where it
fits. -/
def Obligations.EligibilityAndOtherChoices : Prop :=
  (∀ (s : State) (h : ShelfNo) (e : Candidate),
     (s.eligible h e = true ↔
       (s.ref e.ref).cfg.kind ≠ .unused
         ∧ ((s.ref e.ref).run.availability = .available ∨ (s.ref e.ref).run.availability = .failing)
         ∧ e.lockout = false ∧ e.refusedUntil ≤ s.now ∧ s.effectiveGrade e.ref ≤ (s.shelf h).cfg.minimumGrade
         ∧ s.loopFree h e.ref = true)
     ∧ ((s.ref e.ref).cfg.kind ≠ .feed → s.loopFree h e.ref = true)
     ∧ (∀ t : ShelfNo, (s.ref e.ref).cfg.kind = .feed → (s.ref e.ref).cfg.homeShelf = some t →
         (s.loopFree h e.ref = true ↔ t ≠ h ∧ (s.shelf t).isJoined = true ∧ h ∉ s.chain t
           ∧ s.depth t + 1 + s.height h ≤ s.engine.depthLimit)))
  ∧ (∀ (s : State) (h : ShelfNo),
       (∀ before after : List Candidate, (s.shelf h).candidates = before ++ after →
         s.eligibleRefs h = (before.filter fun e => s.eligible h e).map (·.ref)
           ++ (after.filter fun e => s.eligible h e).map (·.ref))
       ∧ (∀ (r : RefNo) (before after : List Candidate) (e : Candidate),
           (s.shelf h).candidates = before ++ e :: after → e.ref = r → (∀ x ∈ before, x.ref ≠ r) →
           (s.shelf h).entry r = some e ∧ s.eligibleRef h r = s.eligible h e)
       ∧ (∀ r : RefNo, (∀ x ∈ (s.shelf h).candidates, x.ref ≠ r) →
           (s.shelf h).entry r = none ∧ s.eligibleRef h r = false)
       ∧ (s.bestChoice h = none ↔ s.eligibleRefs h = [])
       ∧ (∀ r : RefNo, s.bestChoice h = some r → ∃ before after : List RefNo, s.eligibleRefs h = before ++ r :: after
           ∧ (∀ x ∈ before, s.effectiveGrade r < s.effectiveGrade x)
           ∧ ∀ x ∈ after, s.effectiveGrade r ≤ s.effectiveGrade x)
       ∧ ((s.shelf h).cfg.revertive = true → s.autoChoice h = s.bestChoice h))
  ∧ (∀ (s : State) (h : ShelfNo),
       ((s.shelf h).request = .none → s.choice h = s.autoChoice h)
       ∧ (∀ r, (s.shelf h).request = .forced r →
           s.choice h = if (s.ref r).run.availability.usable ∧ s.loopFree h r then some r else none)
       ∧ (∀ r, (s.shelf h).request = .manual r → s.choice h = if s.eligibleRef h r then some r else s.autoChoice h)
       ∧ ((s.shelf h).cfg.revertive = false → ∀ r since, (s.shelf h).timing = some (.locked r since) →
           (s.eligibleRef h r = true → (∀ x ∈ s.eligibleRefs h, s.effectiveGrade r ≤ s.effectiveGrade x) →
             s.autoChoice h = some r)
           ∧ ((s.eligibleRef h r = false ∨ ∃ x ∈ s.eligibleRefs h, s.effectiveGrade x < s.effectiveGrade r) →
             s.autoChoice h = s.bestChoice h))
       ∧ ((s.shelf h).timing = some .freeRun ∨ (∃ o, (s.shelf h).timing = some (.holdover o)) →
           s.autoChoice h = s.bestChoice h))

/-! ## The Distribution Highway -/

/-- A frame starts every 2,500 ticks at bit 1 under the transmit enable as it stands. With it on, no slot has a word but
slot 0, whose first bit this is and whose block in progress sends its next word, and a block whose last word has been
sent is absent; the other slots take their words as the frame reaches them (EmptyQueuePassesOneMeasurementTick). With it
off every block is dropped and every word is zero. When a block's last word counts as sent is the model's reading (log
10). The frame pulse is driven on bit 1 of a frame started with the enable on and never else, and the data line carries
the bit reached of its slot's word, the most significant first. -/
def Obligations.OutgoingFramesStart : Prop :=
  ∀ s : State, s.resetHeld = false →
    (2500 ≤ s.dh.ticks → ∃ t : State, exec .dhFrameStart s = .next t
      ∧ t = { s with dh := ⟨s.dh.enable, 0, 1, some s.dh.enable, t.dh.slots, s.dh.rotation⟩ }
      ∧ ∀ n : SlotNo,
        (s.dh.enable = false → t.dhSlot n = ⟨none, some 0⟩)
        ∧ (s.dh.enable = true → (s.dhSlot n).block = none → t.dhSlot n = ⟨none, none⟩)
        ∧ (∀ b : DhBlock, s.dh.enable = true → (s.dhSlot n).block = some b → b.words.length ≤ b.sent →
            t.dhSlot n = ⟨none, none⟩)
        ∧ (∀ b : DhBlock, s.dh.enable = true → (s.dhSlot n).block = some b → b.sent < b.words.length →
            t.dhSlot n = if n.val = 0 then ⟨some ⟨b.words, b.sent + 1⟩, b.words[b.sent]?⟩ else ⟨some b, none⟩))
    ∧ (s.dh.ticks < 2500 → exec .dhFrameStart s = .next s)
    ∧ (s.dh.framePulse = true ↔ s.dh.frame = some true ∧ s.dh.position = 1)
    ∧ (∀ (n : SlotNo) (i : Fin 8) (w : Byte), s.dh.position = 8 * n.val + 1 + i.val → (s.dhSlot n).word = some w →
        s.dh.dataBit = w.getLsbD (7 - i.val))

/-- A command block start samples the situation of the slot's shelf and sends its five words, the first in this same
frame; no block starts where the slot has one in progress, has sent its word, or has not come. That the first word
counts as sent from its first bit on is the model's reading (log 10). -/
def Obligations.CommandBlocksSampleTheShelf : Prop :=
  ∀ (s : State) (h : ShelfNo) (n : SlotNo) (command argument : Nat), s.resetHeld = false → n.val = h.val →
    (command, argument) = (match (s.shelf h).admission with
      | .vacant => (1, 0)
      | .rejected .disabled => (2, 1)
      | .rejected .cardClass => (2, 2)
      | .joined c =>
        match c.timing with
        | .acquire r _ _ => (3, r.val)
        | .locked r _ => (3, r.val)
        | .freeRun => (4, 0)
        | .holdover _ => (4, 0)) →
    (s.dh.frame = some true → 8 * h.val + 1 ≤ s.dh.position → s.dhSlot n = ⟨none, none⟩ →
      exec (.commandBlockStart h.val) s = .next (s.setDhSlot n
        ⟨some ⟨[BitVec.ofNat 8 (128 + 64 + h.val), BitVec.ofNat 8 (63 - h.val), BitVec.ofNat 8 command,
            BitVec.ofNat 8 argument,
            BitVec.ofNat 8 (((64 + h.val) + 2 * (63 - h.val) + 3 * command + 4 * argument) % 128)], 1⟩,
          some (BitVec.ofNat 8 (128 + 64 + h.val))⟩))
    ∧ (s.dh.frame ≠ some true ∨ s.dh.position < 8 * h.val + 1 ∨ (s.dhSlot n).block ≠ none ∨ (s.dhSlot n).word ≠ none →
      exec (.commandBlockStart h.val) s = .next s)

/-- A quality block start takes the next LINE reference of its group after the rotation position, sends its four words
and moves the rotation position to it; an empty group sends an idle word. The code advertised is the send map's entry
of the reference's plan for the advertised grade: 15 where the home shelf is not JOINED or has the reference as its
root, and otherwise the home shelf's traced grade. That the first word counts as sent from its first bit on is the
model's reading (log 10). -/
def Obligations.QualityBlocksTakeTheNextLine : Prop :=
  (∀ (s : State) (j : Fin 16) (n : SlotNo), s.resetHeld = false → n.val = 32 + j.val →
     (s.dh.frame = some true → 8 * n.val + 1 ≤ s.dh.position → s.dhSlot n = ⟨none, none⟩ →
       ((∀ r : RefNo, r.val % 16 = j.val → (s.ref r).cfg.kind ≠ .line) →
         exec (.qualityBlockStart n.val) s = .next (s.setDhSlot n ⟨none, some 0⟩))
       ∧ (∀ r : RefNo, r.val % 16 = j.val → (s.ref r).cfg.kind = .line →
           (∀ x : RefNo, x.val % 16 = j.val → (s.ref x).cfg.kind = .line → x ≠ r →
             match s.dh.rotation[j] with
             | none => r < x
             | some p => (p < r ∧ (x ≤ p ∨ r < x)) ∨ (r ≤ p ∧ r < x ∧ x ≤ p)) →
           exec (.qualityBlockStart n.val) s = .next ((s.setDhSlot n
             ⟨some ⟨[BitVec.ofNat 8 (128 + r.val), BitVec.ofNat 8 (127 - r.val),
                 BitVec.ofNat 8 (s.advertisedCode r).val,
                 BitVec.ofNat 8 ((r.val + 2 * (127 - r.val) + 3 * (s.advertisedCode r).val) % 128)], 1⟩,
               some (BitVec.ofNat 8 (128 + r.val))⟩).setRotation j r)))
     ∧ (s.dh.frame ≠ some true ∨ s.dh.position < 8 * n.val + 1 ∨ (s.dhSlot n).block ≠ none ∨ (s.dhSlot n).word ≠ none →
       exec (.qualityBlockStart n.val) s = .next s))
  ∧ (∀ (s : State) (r : RefNo) (h : ShelfNo), (s.ref r).cfg.homeShelf = some h →
       ((s.shelf h).isJoined = false ∨ s.root h = some r →
         s.advertisedCode r = (s.plan (s.ref r).cfg.codePlan).send[12])
       ∧ ((s.shelf h).isJoined = true → s.root h ≠ some r → s.tracedGrade h = 15 →
         s.advertisedCode r = (s.plan (s.ref r).cfg.codePlan).send[12])
       ∧ (∀ i : Fin 12, (s.shelf h).isJoined = true → s.root h ≠ some r → s.tracedGrade h = i.val + 1 →
         s.advertisedCode r = (s.plan (s.ref r).cfg.codePlan).send[i.val]))

/-! ## The Message Port -/

/-- A byte moves the receiver from HUNT over the length and the body to the check bytes; a byte out of range or with a
framing fault and the byte watch send it back to HUNT. That the byte watch reads 0 in HUNT is the model's choice
(log 19). -/
def Obligations.BytesAssembleAFrame : Prop :=
  ∀ (s : State) (b : Byte), s.resetHeld = false →
    (s.port.receive = .hunt → b ≠ 0xA5 → exec (.byteReceived b true) s = .next s)
    ∧ (s.port.receive = .hunt → exec (.byteReceived b false) s = .next s)
    ∧ (s.port.receive = .hunt → exec (.byteReceived 0xA5 true) s
        = .next { s with port := { s.port with receive := .length, byteWatch := 0 } })
    ∧ (s.port.receive = .length → 2 ≤ b.toNat → b.toNat ≤ 250 → exec (.byteReceived b true) s
        = .next { s with port := { s.port with
            receive := .body ⟨b.toNat, [], b.toNat % 255, b.toNat % 255⟩
            byteWatch := 0 } })
    ∧ (s.port.receive = .length → b.toNat < 2 ∨ 250 < b.toNat → exec (.byteReceived b true) s
        = .next { s with port := { s.port with receive := .hunt, byteWatch := 0 } })
    ∧ (∀ a : Assembly, s.port.receive = .body a → a.bytes.length + 1 < a.length → exec (.byteReceived b true) s
        = .next { s with port := { s.port with
            receive := .body ⟨a.length, a.bytes ++ [b], (a.sum1 + b.toNat) % 255,
              (a.sum2 + (a.sum1 + b.toNat) % 255) % 255⟩
            byteWatch := 0 } })
    ∧ (∀ a : Assembly, s.port.receive = .body a → a.length ≤ a.bytes.length + 1 → exec (.byteReceived b true) s
        = .next { s with port := { s.port with
            receive := .check1 ⟨a.length, a.bytes ++ [b], (a.sum1 + b.toNat) % 255,
              (a.sum2 + (a.sum1 + b.toNat) % 255) % 255⟩
            byteWatch := 0 } })
    ∧ (∀ a : Assembly, s.port.receive = .check1 a → exec (.byteReceived b true) s
        = .next { s with port := { s.port with receive := .check2 a b, byteWatch := 0 } })
    ∧ (s.port.receive ≠ .hunt → exec (.byteReceived b false) s = .next (State.post .portFrameError
        { s with port := { s.port with receive := .hunt, byteWatch := 0 } }))
    ∧ (s.port.receive ≠ .hunt → 400000 ≤ s.port.byteWatch → exec .byteWatchExpiry s
        = .next { s with port := { s.port with receive := .hunt, byteWatch := 0 } })
    ∧ (s.port.receive = .hunt ∨ s.port.byteWatch < 400000 → exec .byteWatchExpiry s = .next s)

/-- A complete frame whose check bytes match goes to the request buffer, or is lost to PORT_OVERRUN where two are
held; one whose check bytes differ is discarded with PORT_FRAME_ERROR. That the byte watch reads 0 in HUNT is the model's
choice (log 19). -/
def Obligations.CompleteFramesAreCheckedAndBuffered : Prop :=
  ∀ (s u : State) (a : Assembly) (type tag first second : Byte) (body : List Byte), s.resetHeld = false →
    s.port.receive = .check2 a first → a.bytes = type :: tag :: body →
    u = { s with port := { s.port with receive := .hunt, byteWatch := 0 } } →
    (first.toNat = a.sum1 → second.toNat = a.sum2 → s.port.buffer.length < 2 →
      exec (.byteReceived second true) s
        = .next { u with port := { u.port with buffer := s.port.buffer ++ [⟨type, tag, body⟩] } })
    ∧ (first.toNat = a.sum1 → second.toNat = a.sum2 → 2 ≤ s.port.buffer.length →
      exec (.byteReceived second true) s = .next (u.post .portOverrun))
    ∧ (first.toNat ≠ a.sum1 ∨ second.toNat ≠ a.sum2 →
      exec (.byteReceived second true) s = .next (u.post .portFrameError))

/-- A request is taken only while no reply is being sent and its frame is the oldest held; the command of another
request has no effect, the model's reading of an event that cannot take place (logs 1 and 2). -/
def Obligations.RequestsAreTakenOneAtATime : Prop :=
  ∀ (s : State) (type : Nat) (c : Instr),
    (type, c) ∈ [(1, Instr.configureReference), (2, .readReference), (3, .clearRestore), (4, .setOscillatorTrim),
      (5, .loadCodePlan), (6, .readCodePlan), (7, .setGradeOverride), (8, .configureShelf), (9, .readShelf),
      (10, .setSelectionLimits), (11, .switch), (12, .lockout), (13, .hold), (14, .setHighway), (15, .readHighway),
      (16, .injectBlock), (17, .setReporting), (18, .collect), (19, .endService), (20, .setMode), (21, .readStatus),
      (22, .reset)] →
    (s.port.transmit ≠ none ∨ s.port.buffer = [] → exec c s = .next s)
    ∧ (∀ (f : Frame) (rest : List Frame), s.port.buffer = f :: rest → f.type.toNat ≠ type → exec c s = .next s)
    ∧ (∀ f : Frame, s.asks type f → ∃ (t : State) (status : Status) (clamped : Bool) (results : List Byte),
        exec c s = .next (t.replying f status clamped results)
        ∧ t.port = { s.port with mode := t.port.mode } ∧ (c ≠ .setMode → t.port.mode = s.port.mode))

/-- A reply frame: its delimiter, its length, the request's type with 128 added, the tag echoed, the status, the flags,
the results, and the check bytes over all from the length on, all of it still to go; the check bytes are the two sums of
R158, here with the manual's worked frame. Each byte goes out as a start bit, its 8 data bits with the least significant
first and a stop bit, each for a tenth of the byte's time. That CLAMPED is bit 0 of the flags byte, the oscillator's
pace, and the levels of a start bit, of a data bit and of the line between replies are the model's (logs 12, 32, 36). -/
def Obligations.RepliesAreFramed : Prop :=
  (∀ (s : State) (f : Frame) (status : Status) (clamped : Bool) (results : List Byte), ∃ r : Sending,
     (s.replying f status clamped results).port = { s.port with transmit := some r }
     ∧ s.replying f status clamped results = { s with port := { s.port with transmit := some r } }
     ∧ r.elapsed = 0 ∧ r.resetAtEnd = (decide (f.type.toNat = 22) && decide (status = .ok))
     ∧ r.bytes = [0xA5, BitVec.ofNat 8 (results.length + 4), f.type + 128, f.tag, BitVec.ofNat 8 status.code,
         if clamped then 1 else 0] ++ results
         ++ checkBytes ([BitVec.ofNat 8 (results.length + 4), f.type + 128, f.tag, BitVec.ofNat 8 status.code,
           if clamped then 1 else 0] ++ results))
  ∧ (checkBytes [] = [0, 0]
     ∧ (∀ (bytes : List Byte) (b : Byte) (c1 c2 : Nat), c1 < 255 → c2 < 255 →
         checkBytes bytes = [BitVec.ofNat 8 c1, BitVec.ofNat 8 c2] →
         checkBytes (bytes ++ [b])
           = [BitVec.ofNat 8 ((c1 + b.toNat) % 255), BitVec.ofNat 8 ((c2 + (c1 + b.toNat) % 255) % 255)])
     ∧ checkBytes [0x02, 0x15, 0x07] = [0x1E, 0x37])
  ∧ (∀ (p : Port) (b : Byte) (rest : List Byte) (elapsed : Nat) (reset : Bool),
       p.transmit = some ⟨b :: rest, elapsed, reset⟩ →
       (10 * elapsed < 15625 → p.transmitLine = false)
       ∧ (∀ i : Fin 8, 15625 * (i.val + 1) ≤ 10 * elapsed → 10 * elapsed < 15625 * (i.val + 2) →
           p.transmitLine = b.getLsbD i.val)
       ∧ (15625 * 9 ≤ 10 * elapsed → p.transmitLine = true))
  ∧ (∀ p : Port, p.transmit = none ∨ (∃ x, p.transmit = some x ∧ x.bytes = []) → p.transmitLine = true)

/-- A frame of a type outside 1 to 22 is answered with BAD_TYPE, a body of the wrong size with BAD_LENGTH, the two
requests of MAINTENANCE with MODE in NORMAL, and an INJECT BLOCK into no slot with BAD_INDEX; none changes any
state. -/
def Obligations.WrongRequestsAreRefused : Prop :=
  (∀ (s : State) (f : Frame), s.resetHeld = false → s.port.transmit = none → s.port.buffer.head? = some f →
     (f.type.toNat = 0 ∨ 22 < f.type.toNat →
       exec .unknownRequestType s = .next (s.replying f .badType false []))
     ∧ (1 ≤ f.type.toNat → f.type.toNat ≤ 22 → exec .unknownRequestType s = .next s)
     ∧ (∀ (type size : Nat) (c : Instr),
         (type, size, c) ∈ [(1, 23, Instr.configureReference), (2, 1, .readReference), (3, 1, .clearRestore),
           (4, 4, .setOscillatorTrim), (5, 30, .loadCodePlan), (6, 1, .readCodePlan), (7, 2, .setGradeOverride),
           (9, 1, .readShelf), (10, 3, .setSelectionLimits), (11, 3, .switch), (12, 3, .lockout), (13, 2, .hold),
           (14, 2, .setHighway), (15, 0, .readHighway), (17, 2, .setReporting), (18, 1, .collect),
           (19, 0, .endService), (20, 1, .setMode), (21, 0, .readStatus), (22, 0, .reset)] →
         f.type.toNat = type → f.body.length ≠ size → exec c s = .next (s.replying f .badLength false []))
     ∧ (f.type.toNat = 8 → f.body.length < 20 ∨ f.body.length ≠ 20 + 2 * byteAt f.body 19 →
         exec .configureShelf s = .next (s.replying f .badLength false []))
     ∧ (f.type.toNat = 16 → f.body.length ≠ 5 → f.body.length ≠ 6 →
         exec .injectBlock s = .next (s.replying f .badLength false []))
     ∧ (f.type.toNat = 16 → f.body.length = 5 ∨ f.body.length = 6 → s.port.mode = .normal →
         exec .injectBlock s = .next (s.replying f .mode false []))
     ∧ (f.type.toNat = 7 → f.body.length = 2 → s.port.mode = .normal →
         exec .setGradeOverride s = .next (s.replying f .mode false [])))
  ∧ (∀ (s : State) (f : Frame) (n : Nat) (words : List Byte), s.asks 16 f → s.port.mode = .maintenance →
       f.body = put8 n ++ words → words.length = 4 ∨ words.length = 5 → 48 ≤ n → n ≤ 255 →
       exec .injectBlock s = .next (s.replying f .badIndex false []))

/-- Whatever the command, a reply with a status other than OK leaves everything but the transmit state as it was. -/
def Obligations.RefusedRequestsChangeNothing : Prop :=
  ∀ (c : Instr) (s t : State) (r : Sending), s.port.transmit = none → exec c s = .next t →
    t.port.transmit = some r → r.status ≠ some 0 →
    t = { s with port := { s.port with transmit := some r } }

/-! ## Requests of the Reference Unit -/

/-- An accepted CONFIGURE REFERENCE stores every field, clamped, restarts the running fields but for the override and
the channel but for its last pin sample, posts REF_FAILED where the reference was not FAILED, and leaves a pass pending.
It is refused with BAD_INDEX and BAD_VALUE for numbers and values outside their tables, in that order, and with IN_USE
while a shelf follows the reference. -/
def Obligations.ConfigureReference : Prop :=
  (∀ (s : State) (f : Frame) (r : RefNo) (kind home slot source fixed plan stale gate shift pull hysteresis fail restore
       age mask p : Nat),
     s.asks 1 f →
     f.body = put8 r.val ++ put8 kind ++ put8 home ++ put8 slot ++ put8 source ++ put8 fixed ++ put8 plan ++ put8 stale
       ++ put8 gate ++ put8 shift ++ put32 pull ++ put32 hysteresis ++ put8 fail ++ put16 restore ++ put8 age
       ++ put8 mask →
     kind ≤ 4 → (kind = 1 ∨ kind = 4 → home < 32) → home ≤ 255 → (slot < 48 ∨ slot = 255) →
     (source ≤ 1 ∨ (kind = 4 ∧ source ≤ 255)) → gradeValid fixed = true → plan ≤ 1 → gradeValid stale = true →
     gate ≤ 255 → shift ≤ 255 → pull < 4294967296 → hysteresis < 4294967296 → fail ≤ 255 → restore ≤ 65535 →
     age ≤ 255 → mask ≤ 127 → s.users r = [] →
     p = max 400 (min 200000 pull) →
     ∃ t : State, exec .configureReference s = .next (t.replying f .ok
         (decide (gate ∉ [1, 2, 4, 8]) || decide (4 < shift) || decide (p ≠ pull) || decide (p / 2 < hysteresis)
           || decide (100 < fail) || decide (720 < restore) || decide (age = 0 ∨ 60 < age)) [])
       ∧ (t.ref r).cfg = {
           kind := if kind = 0 then .unused else if kind = 1 then .line else if kind = 2 then .ext
             else if kind = 3 then .sat else .feed
           homeShelf := if kind = 1 ∨ kind = 4 then some (Fin.ofNat 32 home) else none
           slot := if slot = 255 then none else some (Fin.ofNat 48 slot)
           gradeSource := if kind = 4 then .traced else if source = 0 then .message else .fixed
           fixedGrade := fixed
           codePlan := if plan = 0 then .a else .b
           staleGrade := stale
           gateLength := if gate < 2 then 1 else if gate < 4 then 2 else if gate < 8 then 4 else 8
           filterShift := min 4 shift
           pullLimit := p
           hysteresis := min (p / 2) hysteresis
           failDelay := min 100 fail
           restoreDelay := min 720 restore
           messageAgeLimit := max 1 (min 60 age)
           reportMask := BitVec.ofNat 7 mask }
       ∧ (t.ref r).run = ⟨.failed, true, none, none, none, none, 0, none, false, (s.ref r).run.override⟩
       ∧ (t.chan r).present = false ∧ (t.chan r).pinHigh = (s.chan r).pinHigh ∧ (t.chan r).gate = none
       ∧ (t.chan r).lastRaw = none ∧ (t.chan r).saturated = false ∧ (t.chan r).filtered = none
       ∧ (t.chan r).freq = .unmeasured
       ∧ t.engine = { s.engine with passPending := true }
       ∧ t.queue = (State.postAll
           ((if (s.ref r).run.availability = .failed then ([] : List Report) else [.refFailed r .reconfigured])
             ++ gradeReports s t) { s with refs := t.refs }).queue
       ∧ KeepsOtherRefs r s t
       ∧ t = { s with
           refs := { s.refs with records := t.refs.records }
           monitor := { s.monitor with channels := t.monitor.channels }
           engine := t.engine
           queue := t.queue })
  ∧ (∀ (s : State) (f : Frame), s.asks 1 f → f.body.length = 23 →
       (40 ≤ byteAt f.body 0
           ∨ ((byteAt f.body 1 = 1 ∨ byteAt f.body 1 = 4) ∧ 32 ≤ byteAt f.body 2 ∧ byteAt f.body 2 ≠ 255)
           ∨ (48 ≤ byteAt f.body 3 ∧ byteAt f.body 3 ≠ 255) →
         exec .configureReference s = .next (s.replying f .badIndex false []))
       ∧ (byteAt f.body 0 < 40 →
           ((byteAt f.body 1 = 1 ∨ byteAt f.body 1 = 4) → byteAt f.body 2 < 32 ∨ byteAt f.body 2 = 255) →
           (byteAt f.body 3 < 48 ∨ byteAt f.body 3 = 255) →
           (4 < byteAt f.body 1
             ∨ ((byteAt f.body 1 = 1 ∨ byteAt f.body 1 = 4) ∧ byteAt f.body 2 = 255)
             ∨ (byteAt f.body 1 ≠ 4 ∧ 1 < byteAt f.body 4)
             ∨ gradeValid (byteAt f.body 5) = false ∨ 1 < byteAt f.body 6 ∨ gradeValid (byteAt f.body 7) = false
             ∨ 127 < byteAt f.body 22) →
           exec .configureReference s = .next (s.replying f .badValue false []))
       ∧ (∀ r : RefNo, byteAt f.body 0 = r.val → byteAt f.body 1 ≤ 4 →
           ((byteAt f.body 1 = 1 ∨ byteAt f.body 1 = 4) → byteAt f.body 2 < 32) →
           (byteAt f.body 3 < 48 ∨ byteAt f.body 3 = 255) → (byteAt f.body 4 ≤ 1 ∨ byteAt f.body 1 = 4) →
           gradeValid (byteAt f.body 5) = true → byteAt f.body 6 ≤ 1 → gradeValid (byteAt f.body 7) = true →
           byteAt f.body 22 ≤ 127 → (∃ h : ShelfNo, (s.shelf h).selected = some r) →
           exec .configureReference s = .next (s.replying f .inUse false [])))

/-- READ REFERENCE and READ SHELF reply with every field in the layout of the record formats, change nothing, and refuse
a number outside its table; READ CODE PLAN is in ReadCodePlan. The remaining time of a timer that has run out and is
not yet taken is free, and so is that of one started at the top of office time (log 15). That the aged flag is
an absent result, FFh, where there is no holdover-start is read from R77 with R169 and R170 (log 31). -/
def Obligations.ReadReferenceAndReadShelf : Prop :=
  ∀ (s : State) (f : Frame),
    (∀ r : RefNo, s.asks 2 f → f.body = put8 r.val → exec .readReference s = .next (s.replying f .ok false (
      put8 (s.ref r).cfg.kind.code ++ putOption8 ((s.ref r).cfg.homeShelf.map (·.val))
        ++ putOption8 ((s.ref r).cfg.slot.map (·.val)) ++ put8 (s.ref r).cfg.gradeSource.code
        ++ put8 (s.ref r).cfg.fixedGrade ++ put8 (s.ref r).cfg.codePlan.code ++ put8 (s.ref r).cfg.staleGrade
        ++ put8 (s.ref r).cfg.gateLength ++ put8 (s.ref r).cfg.filterShift ++ put32 (s.ref r).cfg.pullLimit
        ++ put32 (s.ref r).cfg.hysteresis ++ put8 (s.ref r).cfg.failDelay ++ put16 (s.ref r).cfg.restoreDelay
        ++ put8 (s.ref r).cfg.messageAgeLimit ++ put8 (s.ref r).cfg.reportMask.toNat
        ++ put8 (s.ref r).run.availability.code ++ putFlag (s.ref r).run.firstQualification
        ++ putOption16 (match (s.ref r).run.failTimer with
          | some n => some (remaining n s.time.tickCount)
          | none => (s.ref r).run.restoreTimer.map fun t => remaining t.expiry s.now)
        ++ putOption8 ((s.ref r).run.adopted.map (·.val)) ++ putOption8 ((s.ref r).run.candidate.map (·.val))
        ++ put8 (s.ref r).run.candidateCount
        ++ putOption8 ((s.ref r).run.messageAge.map fun t => remaining t.expiry s.now)
        ++ putFlag (s.ref r).run.cardDefect ++ putOption8 (s.ref r).run.override ++ put8 (s.effectiveGrade r)
        ++ putFlag (s.chan r).present ++ putFlag (s.chan r).gate.isSome ++ putOffset (s.chan r).lastRaw
        ++ putOffset (s.chan r).filtered ++ put8 (s.chan r).freq.code ++ putFlag (s.chan r).saturated
        ++ putShelfSet (s.users r))))
    ∧ (∀ n : Nat, 40 ≤ n → n ≤ 255 → s.asks 2 f → f.body = put8 n →
        exec .readReference s = .next (s.replying f .badIndex false []))
    ∧ (∀ h : ShelfNo, s.asks 9 f → f.body = put8 h.val → exec .readShelf s = .next (s.replying f .ok false (
      putFlag (s.shelf h).cfg.enabled ++ put8 (s.shelf h).cfg.classes.toNat
        ++ putOption8 ((s.shelf h).cfg.reportSlot.map (·.val)) ++ putFlag (s.shelf h).cfg.revertive
        ++ put8 (s.shelf h).cfg.minimumGrade ++ put8 (s.shelf h).cfg.acquireLimit ++ put16 (s.shelf h).cfg.qualifyTime
        ++ put8 (s.shelf h).cfg.holdoverGrade ++ put8 (s.shelf h).cfg.freeRunGrade
        ++ put32 (s.shelf h).cfg.holdoverLimit ++ put16 (s.shelf h).cfg.refusalPeriod
        ++ put16 (s.shelf h).cfg.reportMask.toNat ++ put8 (s.shelf h).candidates.length
        ++ ((s.shelf h).candidates.flatMap fun e => put8 e.ref.val ++ putFlag e.lockout)
        ++ put8 (s.shelf h).admission.code ++ putOption8 ((s.shelf h).rejectReason.map (·.code))
        ++ putOption8 ((s.shelf h).card.map (·.cardClass.code))
        ++ putOption8 ((s.shelf h).silence.map fun t => remaining t.expiry s.now)
        ++ putOption8 ((s.shelf h).timing.map (·.name.code)) ++ putOption8 ((s.shelf h).selected.map (·.val))
        ++ putOption8 ((s.shelf h).origin.map (·.name.code))
        ++ putOption8 ((s.shelf h).origin.map (·.fallbackName.code))
        ++ putOption8 ((s.shelf h).origin.bind (·.carried))
        ++ putOption8 ((s.shelf h).acquireTimer.map fun t => remaining t.expiry s.now)
        ++ putOption32 ((s.shelf h).lockedSince.map fun since => s.now - since)
        ++ putOption32 ((s.shelf h).heldOver.map fun o => s.now - o.start)
        ++ putOption8 ((s.shelf h).heldOver.map fun o => if o.aged then 1 else 0)
        ++ (s.shelf h).request.put ++ putFlag (s.shelf h).hold
        ++ putOption8 (((s.shelf h).card.bind (·.proposed)).map (·.val))
        ++ put8 (s.tracedGrade h) ++ putOption8 ((s.root h).map (·.val)) ++ put8 (s.depth h) ++ put8 (s.height h)
        ++ put8 (s.chain h).length ++ putChain (s.chain h)
        ++ ((s.shelf h).candidates.flatMap fun e => put16 (e.refusedUntil - s.now)))))
    ∧ (∀ n : Nat, 32 ≤ n → n ≤ 255 → s.asks 9 f → f.body = put8 n →
        exec .readShelf s = .next (s.replying f .badIndex false []))

/-- R62 whole: READ CODE PLAN replies with the 16 receive entries in code order and the 13 send entries in grade order
as they are held, changes no state, and refuses another plan name, in both operating modes. -/
def Obligations.ReadCodePlan : Prop :=
  ∀ (s : State) (f : Frame), s.asks 6 f →
    (f.body = put8 0 → exec .readCodePlan s = .next (s.replying f .ok false
      (((List.range 16).map fun i => BitVec.ofNat 8 (s.refs.planA.receive.toList.getD i 0))
        ++ (List.range 13).map fun i => BitVec.ofNat 8 (s.refs.planA.send.toList.getD i 0).val)))
    ∧ (f.body = put8 1 → exec .readCodePlan s = .next (s.replying f .ok false
      (((List.range 16).map fun i => BitVec.ofNat 8 (s.refs.planB.receive.toList.getD i 0))
        ++ (List.range 13).map fun i => BitVec.ofNat 8 (s.refs.planB.send.toList.getD i 0).val)))
    ∧ (∀ n : Nat, 2 ≤ n → n ≤ 255 → f.body = put8 n →
        exec .readCodePlan s = .next (s.replying f .badValue false []))

/-- An accepted LOAD CODE PLAN replaces both maps of the named plan and leaves the other; in MAINTENANCE an accepted SET
GRADE OVERRIDE writes or clears the override of its reference. Both post every change of grade and leave a pass
pending where one changes, and refuse values and references outside their tables. That the REF_GRADE of references that
are not FEEDs stand before those of FEEDs is the model's reading (log 16). -/
def Obligations.CodePlansAndOverridesAreWritten : Prop :=
  (∀ (s : State) (f : Frame) (plan : Nat) (receive send : List Nat), s.asks 5 f → receive.length = 16 →
     send.length = 13 → f.body = put8 plan ++ receive.flatMap put8 ++ send.flatMap put8 → plan ≤ 255 →
     (∀ g ∈ receive, g ≤ 255) → (∀ c ∈ send, c ≤ 255) →
     (plan ≤ 1 → (∀ g ∈ receive, gradeValid g = true) → (∀ c ∈ send, c ≤ 15) →
       ∃ t : State, exec .loadCodePlan s = .next (t.replying f .ok false [])
         ∧ (t.plan (if plan = 0 then .a else .b)).receive.toList = receive
         ∧ (t.plan (if plan = 0 then .a else .b)).send.toList.map (·.val) = send
         ∧ t.plan (if plan = 0 then .b else .a) = s.plan (if plan = 0 then .b else .a)
         ∧ t.engine = { s.engine with passPending := s.engine.passPending || !(gradeReports s t).isEmpty }
         ∧ t.queue = (s.postAll (gradeReports s t)).queue
         ∧ t.refs.records = s.refs.records ∧ t.refs.persistence = s.refs.persistence
         ∧ t = { s with refs := t.refs, engine := t.engine, queue := t.queue })
     ∧ (1 < plan ∨ (∃ g ∈ receive, gradeValid g = false) ∨ (∃ c ∈ send, 15 < c) →
       exec .loadCodePlan s = .next (s.replying f .badValue false [])))
  ∧ (∀ (s : State) (f : Frame) (r : RefNo) (value : Nat), s.asks 7 f → s.port.mode = .maintenance →
       f.body = put8 r.val ++ put8 value →
       (gradeValid value = true ∨ value = 255 → ∃ t : State,
         exec .setGradeOverride s = .next (t.replying f .ok false (put8 value ++ put8 (t.effectiveGrade r)))
           ∧ (t.ref r) = { s.ref r with run := { (s.ref r).run with
               override := if value = 255 then none else some value } }
           ∧ KeepsOtherRefs r s t ∧ t.refs = { s.refs with records := t.refs.records }
           ∧ t.engine = { s.engine with passPending := s.engine.passPending || !(gradeReports s t).isEmpty }
           ∧ t.queue = (s.postAll (gradeReports s t)).queue
           ∧ t = { s with refs := t.refs, engine := t.engine, queue := t.queue })
       ∧ (gradeValid value = false → value < 255 →
         exec .setGradeOverride s = .next (s.replying f .badValue false [])))
  ∧ (∀ (s : State) (f : Frame) (n value : Nat), s.asks 7 f → s.port.mode = .maintenance →
       f.body = put8 n ++ put8 value → 40 ≤ n → n ≤ 255 →
       exec .setGradeOverride s = .next (s.replying f .badIndex false []))

/-- SET OSCILLATOR TRIM and SET REPORTING store their values at the nearer limit and report CLAMPED, SET HIGHWAY stores
its two settings, and each reply carries the values as stored. READ HIGHWAY replies with the receive state, the
transmit enable and the three counters and sets the counters to 0. -/
def Obligations.SettingsAndReadHighway : Prop :=
  (∀ (s : State) (f : Frame),
     (∀ (x y : Int), s.asks 4 f → f.body = putSigned32 x → -2147483648 ≤ x → x ≤ 2147483647 →
       y = max (-200000) (min 200000 x) →
       exec .setOscillatorTrim s = .next (({ s with monitor := { s.monitor with trim := y } }).replying f .ok
         (decide (y ≠ x)) (putSigned32 y)))
     ∧ (∀ mode enable : Nat, s.asks 14 f → f.body = put8 mode ++ put8 enable → mode ≤ 1 → enable ≤ 1 →
       exec .setHighway s = .next (({ s with
         qh := { s.qh with pulseMode := if mode = 0 then .ignore else .realign }
         dh := { s.dh with enable := decide (enable = 1) } }).replying f .ok false (put8 mode ++ put8 enable)))
     ∧ (∀ mode enable : Nat, s.asks 14 f → f.body = put8 mode ++ put8 enable → mode ≤ 255 → enable ≤ 255 →
       1 < mode ∨ 1 < enable → exec .setHighway s = .next (s.replying f .badValue false []))
     ∧ (∀ threshold age x y : Nat, s.asks 17 f → f.body = put8 threshold ++ put8 age → threshold ≤ 255 → age ≤ 255 →
       x = max 1 (min 64 threshold) → y = min 60 age →
       exec .setReporting s = .next (({ s with queue := { s.queue with
         threshold := x
         ageLimit := y
         attention := ReportQueue.attentionCondition
           { s.queue with threshold := x, ageLimit := y } s.now } }).replying f .ok
             (decide (x ≠ threshold) || decide (y ≠ age)) (put8 x ++ put8 y))))
  ∧ (∀ (s : State) (f : Frame), s.asks 15 f → f.body = [] →
       exec .readHighway s = .next (({ s with qh := { s.qh with
           checkErrors := 0
           markErrors := 0
           misroutes := 0 } }).replying f .ok false
         ([if s.qh.framing = none then 0 else 1, if s.qh.pulseMode = PulseMode.ignore then 0 else 1,
             BitVec.ofNat 8 s.qh.missing, if s.dh.enable then 1 else 0]
           ++ put16 s.qh.checkErrors ++ put16 s.qh.markErrors ++ put16 s.qh.misroutes)))

/-! ## Requests of the Selection Engine -/

/-- What an accepted CONFIGURE SHELF stores: every field at its value or the nearer limit, and the new list in the
order given, each entry with the lockout flag of the request and the refusal mark of the old entry for its reference;
the card is then settled (ConfigureShelfSettlesTheCard) and every change of grade handed on. It is refused with BAD_INDEX
and BAD_VALUE for numbers and values outside their tables, in that order, and then with BUSY in ACQUIRE. -/
def Obligations.ConfigureShelfStoresTheRecord : Prop :=
  (∀ (s : State) (f : Frame), s.asks 8 f → f.body.length = 20 + 2 * byteAt f.body 19 →
    ((32 ≤ byteAt f.body 0 ∨ (48 ≤ byteAt f.body 3 ∧ byteAt f.body 3 ≠ 255)
        ∨ ∃ i < byteAt f.body 19, 40 ≤ byteAt f.body (20 + 2 * i)) →
      exec .configureShelf s = .next (s.replying f .badIndex false []))
    ∧ (byteAt f.body 0 < 32 → (byteAt f.body 3 < 48 ∨ byteAt f.body 3 = 255) →
        (∀ i < byteAt f.body 19, byteAt f.body (20 + 2 * i) < 40) →
        (6 < byteAt f.body 19
          ∨ (∃ i j : Nat, i < j ∧ j < byteAt f.body 19 ∧ byteAt f.body (20 + 2 * i) = byteAt f.body (20 + 2 * j))
          ∨ 1 < byteAt f.body 1 ∨ 1 < byteAt f.body 4 ∨ 7 < byteAt f.body 2 ∨ 8191 < be16At f.body 17) →
        exec .configureShelf s = .next (s.replying f .badValue false [])))
  ∧ ∀ (s : State) (f : Frame) (h : ShelfNo)
    (enabled classes slot revertive minimum acquire qualify holdover freeRun limit refusal mask : Nat)
    (entries : List (RefNo × Nat)) (cfg : ShelfConfig) (list : List Candidate),
    s.asks 8 f →
    f.body = put8 h.val ++ put8 enabled ++ put8 classes ++ put8 slot ++ put8 revertive ++ put8 minimum ++ put8 acquire
      ++ put16 qualify ++ put8 holdover ++ put8 freeRun ++ put32 limit ++ put16 refusal ++ put16 mask
      ++ put8 entries.length ++ entries.flatMap (fun e => put8 e.1.val ++ put8 e.2) →
    enabled ≤ 1 → classes ≤ 7 → (slot < 48 ∨ slot = 255) → revertive ≤ 1 → minimum ≤ 255 → acquire ≤ 255 →
    qualify ≤ 65535 → holdover ≤ 255 → freeRun ≤ 255 → limit < 4294967296 → refusal ≤ 65535 → mask ≤ 8191 →
    entries.length ≤ 6 → (entries.map (·.1)).Nodup → (∀ e ∈ entries, e.2 ≤ 255) →
    cfg = ⟨decide (enabled = 1), BitVec.ofNat 3 classes, if slot = 255 then none else some (Fin.ofNat 48 slot),
      decide (revertive = 1), max 1 (min 12 minimum), max 1 (min 60 acquire), min 3600 qualify,
      max 1 (min 12 holdover), max 1 (min 12 freeRun), min 86400 limit, max 10 (min 600 refusal),
      BitVec.ofNat 13 mask⟩ →
    list = entries.map (fun e =>
      match (s.shelf h).entry e.1 with
      | some old => ⟨e.1, decide (e.2 ≠ 0), old.refusedUntil, old.armed⟩
      | none => ⟨e.1, decide (e.2 ≠ 0), 0, false⟩) →
    ((s.shelf h).acquiring = true → exec .configureShelf s = .next (s.replying f .busy false []))
    ∧ ((s.shelf h).acquiring = false → ∃ t : State, exec .configureShelf s = .next (t.replying f .ok
        (decide (minimum = 0 ∨ 12 < minimum) || decide (acquire = 0 ∨ 60 < acquire) || decide (3600 < qualify)
          || decide (holdover = 0 ∨ 12 < holdover) || decide (freeRun = 0 ∨ 12 < freeRun) || decide (86400 < limit)
          || decide (refusal < 10 ∨ 600 < refusal)) [])
      ∧ (t.shelf h).cfg = cfg ∧ (t.shelf h).candidates = list
      ∧ (t.shelf h).silence = (s.shelf h).silence ∧ (t.shelf h).hold = (s.shelf h).hold
      ∧ t.engine.shelves = (State.reconfigureShelf h cfg list s).engine.shelves
      ∧ t.queue = ((State.reconfigureShelf h cfg list s).postAll (gradeReports s t)).queue
      ∧ KeepsOtherShelves h s t
      ∧ t = { s with
          engine := { s.engine with shelves := t.engine.shelves, passPending := true }
          queue := t.queue })

/-- What an accepted CONFIGURE SHELF does to the card: a switch request the new list does not offer is dropped, a
holdover past a changed limit is aged, a card that is disabled or of a class no longer accepted is rejected, and a shelf
LOCKED on a reference the list does not offer goes to its fallback. A limit that stands leaves the aging as it was. The
order of the reports is the model's reading (log 26), and so is that a due time past the top of office time waits for a
second event (log 34). -/
def Obligations.ConfigureShelfSettlesTheCard : Prop :=
  ∀ (s u : State) (h : ShelfNo) (cfg : ShelfConfig) (list : List Candidate),
    u = s.setShelf h { s.shelf h with cfg := cfg, candidates := list } → (s.shelf h).acquiring = false →
    ∃ t : State, State.reconfigureShelf h cfg list s = t ∧ t.engine.passPending = true
      ∧ ((s.shelf h).isJoined = false → t = { u with engine := { u.engine with passPending := true } })
      ∧ ∀ (c : JoinedCard) (aged : Timing) (kept : SwitchRequest), (s.shelf h).admission = .joined c →
        aged = (match c.timing with
          | .holdover o =>
            if o.aged ∨ cfg.holdoverLimit = (s.shelf h).cfg.holdoverLimit then .holdover o
            else if cfg.holdoverLimit ≠ 0 ∧ o.start + cfg.holdoverLimit ≤ s.now then
              .holdover ⟨o.start, true, false⟩
            else .holdover ⟨o.start, false, false⟩
          | x => x) →
        kept = (match c.request with
          | .none => .none
          | .forced r => if (u.shelf h).offers r then .forced r else .none
          | .manual r => if (u.shelf h).offers r then .manual r else .none) →
        (cfg.enabled = false → (t.shelf h).admission = .rejected .disabled)
        ∧ (cfg.enabled = true → cfg.classes.getLsbD (c.cardClass.code - 1) = false →
            (t.shelf h).admission = .rejected .cardClass)
        ∧ (cfg.enabled = true → cfg.classes.getLsbD (c.cardClass.code - 1) = true →
            (t.shelf h).admission = .joined { c with
              request := kept
              timing := (match aged with
                | .locked r since => if (u.shelf h).offers r then .locked r since else fallbackOf u h (.locked r since)
                | x => x) })
        ∧ t.queue = (u.postAll (
            (match c.request with
              | .manual r => if (u.shelf h).offers r then [] else [.manualDropped h r]
              | _ => [])
            ++ (if aged.heldOver.map (·.aged) = c.timing.heldOver.map (·.aged) then [] else [.holdoverAged h])
            ++ (if cfg.enabled = false then [.cardRejected h .disabled]
              else if cfg.classes.getLsbD (c.cardClass.code - 1) = false then [.cardRejected h .cardClass]
              else
                match aged with
                | .locked r since =>
                  if (u.shelf h).offers r then [] else [.shelfState h (fallbackOf u h (.locked r since)).name]
                | _ => []))).queue

/-- An accepted SET SELECTION LIMITS stores the three limits at their nearer limits and sets the pending flag where the
depth limit changes; it is refused with IN_USE while a JOINED shelf is deeper. -/
def Obligations.SetSelectionLimits : Prop :=
  ∀ (s : State) (f : Frame) (depth persistence silence d p q : Nat), s.asks 10 f →
    f.body = put8 depth ++ put8 persistence ++ put8 silence → depth ≤ 255 → persistence ≤ 255 → silence ≤ 255 →
    d = max 1 (min 6 depth) → p = max 1 (min 8 persistence) → q = max 1 (min 10 silence) →
    ((∀ h : ShelfNo, (s.shelf h).isJoined = true → s.depth h ≤ d) →
      exec .setSelectionLimits s = .next (({ s with
        refs := { s.refs with persistence := p }
        engine := { s.engine with
          depthLimit := d
          silenceLimit := q
          passPending := s.engine.passPending || decide (d ≠ s.engine.depthLimit) } }).replying f .ok
            (decide (d ≠ depth) || decide (p ≠ persistence) || decide (q ≠ silence)) (put8 d ++ put8 p ++ put8 q)))
    ∧ ((∃ h : ShelfNo, (s.shelf h).isJoined = true ∧ d < s.depth h) →
      exec .setSelectionLimits s = .next (s.replying f .inUse false
        (put8 s.engine.depthLimit ++ put8 s.refs.persistence ++ put8 s.engine.silenceLimit)))

/-- SWITCH writes or clears the switch request and leaves a pass pending, in the order of the tests of R119: a shelf and,
for FORCE and MANUAL, a reference that the part has; an action that is one of the three, whatever the shelf's state; a
shelf that is JOINED, not in ACQUIRE and not held; an entry that is there and not locked out; a loop-free target for
FORCE and an eligible one for MANUAL. -/
def Obligations.SwitchWritesTheRequest : Prop :=
  (∀ (s : State) (f : Frame) (shelf action n : Nat), s.asks 11 f → shelf ≤ 255 → action ≤ 255 → n ≤ 255 →
    f.body = put8 shelf ++ put8 action ++ put8 n →
    (32 ≤ shelf → exec .switch s = .next (s.replying f .badIndex false []))
    ∧ (shelf < 32 → action = 1 ∨ action = 2 → 40 ≤ n → exec .switch s = .next (s.replying f .badIndex false []))
    ∧ (shelf < 32 → 2 < action → exec .switch s = .next (s.replying f .badValue false [])))
  ∧ ∀ (s : State) (f : Frame) (h : ShelfNo) (r : RefNo) (action n : Nat), s.asks 11 f → n ≤ 255 →
    f.body = put8 h.val ++ put8 action ++ put8 n →
    (action ≤ 2 → (action = 0 ∨ n < 40) →
      ((s.shelf h).isJoined = false →
        exec .switch s = .next (s.replying f .notJoined false (s.shelf h).request.put))
      ∧ ((s.shelf h).acquiring = true → exec .switch s = .next (s.replying f .busy false (s.shelf h).request.put))
      ∧ ((s.shelf h).isJoined = true → (s.shelf h).acquiring = false → (s.shelf h).hold = true →
        exec .switch s = .next (s.replying f .held false (s.shelf h).request.put)))
    ∧ (∀ c : JoinedCard, (s.shelf h).admission = .joined c → (s.shelf h).acquiring = false → (s.shelf h).hold = false →
      (action = 0 → exec .switch s = .next ((State.leavePassPending (s.setShelf h { s.shelf h with
          admission := .joined { c with request := .none } })).replying f .ok false
        ([0, 255] ++ put8 c.timing.name.code ++ putOption8 (c.timing.selected.map (·.val)))))
      ∧ (action = 1 ∨ action = 2 → n = r.val →
        ((s.shelf h).entry r = none →
          exec .switch s = .next (s.replying f .notCandidate false (s.shelf h).request.put))
        ∧ (∀ e, (s.shelf h).entry r = some e →
          (e.lockout = true → exec .switch s = .next (s.replying f .lockedOut false (s.shelf h).request.put))
          ∧ (e.lockout = false → action = 1 → s.loopFree h r = false →
            exec .switch s = .next (s.replying f .loop false (s.shelf h).request.put))
          ∧ (e.lockout = false → action = 2 → s.eligible h e = false →
            exec .switch s = .next (s.replying f .notUsable false (s.shelf h).request.put))
          ∧ (e.lockout = false → action = 1 → s.loopFree h r = true →
            exec .switch s = .next ((State.leavePassPending (s.setShelf h { s.shelf h with
                admission := .joined { c with request := .forced r } })).replying f .ok false
              ([1, BitVec.ofNat 8 r.val] ++ put8 c.timing.name.code ++ putOption8 (c.timing.selected.map (·.val)))))
          ∧ (e.lockout = false → action = 2 → s.eligible h e = true →
            exec .switch s = .next ((State.leavePassPending (s.setShelf h { s.shelf h with
                admission := .joined { c with request := .manual r } })).replying f .ok false
              ([2, BitVec.ofNat 8 r.val] ++ put8 c.timing.name.code
                ++ putOption8 (c.timing.selected.map (·.val))))))))

/-- LOCKOUT writes the flag of an entry. Set anew, it removes the switch request that names the reference and takes the
shelf off it, in that order; cleared anew, it leaves a pass pending; a flag that stands changes nothing. It is refused
with BAD_INDEX for a shelf or a reference the part does not have, whatever the setting. -/
def Obligations.LockoutWritesTheFlag : Prop :=
  (∀ (s : State) (f : Frame) (shelf n setting : Nat), s.asks 12 f → f.body = put8 shelf ++ put8 n ++ put8 setting →
    shelf ≤ 255 → n ≤ 255 → 32 ≤ shelf ∨ 40 ≤ n → exec .lockout s = .next (s.replying f .badIndex false []))
  ∧ ∀ (s : State) (f : Frame) (h : ShelfNo) (r : RefNo) (setting : Nat), s.asks 12 f →
    f.body = put8 h.val ++ put8 r.val ++ put8 setting → setting ≤ 255 →
    (1 < setting → exec .lockout s = .next (s.replying f .badValue false []))
    ∧ (setting ≤ 1 → (s.shelf h).entry r = none → exec .lockout s = .next (s.replying f .notCandidate false []))
    ∧ ∀ e, setting ≤ 1 → (s.shelf h).entry r = some e → ∃ t : State,
      exec .lockout s = .next (t.replying f .ok false (put8 setting
          ++ putOption8 ((t.shelf h).timing.map (·.name.code)) ++ (t.shelf h).request.put))
        ∧ (decide (setting = 1) = e.lockout → t = s)
        ∧ (setting = 0 → e.lockout = true → t = State.leavePassPending (s.setShelf h { s.shelf h with
            candidates := (s.shelf h).candidates.map fun x => if x.ref = r then { x with lockout := false } else x }))
        ∧ (setting = 1 → e.lockout = false →
            (t.shelf h).candidates
                = ((s.shelf h).candidates.map fun x => if x.ref = r then { x with lockout := true } else x)
              ∧ (t.shelf h).silence = (s.shelf h).silence
              ∧ (t.shelf h).timing = (shelfOff s r h).timing
              ∧ (t.shelf h).request = (if (s.shelf h).request.target = some r then .none else (s.shelf h).request)
              ∧ (t.shelf h).admission.code = (s.shelf h).admission.code
              ∧ (t.shelf h).card.map (fun c => (c.cardClass, c.proposed))
                = (s.shelf h).card.map (fun c => (c.cardClass, c.proposed))
              ∧ t.queue = (s.postAll ((if (s.shelf h).request = .manual r then [.manualDropped h r] else [])
                ++ offReports s r h ++ gradeReports s t)).queue
              ∧ t.engine.passPending = true ∧ OnlyShelf h s t)

/-- HOLD writes the flag of one shelf or of all, sets the pending flag where one changes, posts nothing and replies with
the set of shelves held. -/
def Obligations.HoldWritesTheFlags : Prop :=
  ∀ (s : State) (f : Frame) (n setting : Nat), s.asks 13 f → f.body = put8 n ++ put8 setting → n ≤ 255 →
    setting ≤ 255 →
    (32 ≤ n → n ≠ 255 → exec .hold s = .next (s.replying f .badIndex false []))
    ∧ (n < 32 ∨ n = 255 → 1 < setting → exec .hold s = .next (s.replying f .badValue false []))
    ∧ (n < 32 ∨ n = 255 → setting ≤ 1 → ∃ t : State,
      exec .hold s = .next (t.replying f .ok false
          (putShelfSet (allShelves.filter fun h => (t.shelf h).hold)))
        ∧ (∀ h : ShelfNo, t.shelf h = { s.shelf h with
            hold := if n = 255 ∨ n = h.val then decide (setting = 1) else (s.shelf h).hold })
        ∧ (t.engine.passPending = true ↔
            s.engine.passPending = true ∨ ∃ h : ShelfNo, (t.shelf h).hold ≠ (s.shelf h).hold)
        ∧ t = { s with engine := { s.engine with
            shelves := t.engine.shelves
            passPending := t.engine.passPending } })

/-! ## Requests of the highways, the Report Queue and the part -/

/-- In MAINTENANCE an accepted INJECT BLOCK feeds its words to the assembler of its slot one after another and replies
with the number of blocks delivered and the assembler's state. Words that only collect, and a whole block into an
assembler in HUNT, are spelled out: one block delivered where it is good and bound to the slot, none where it is not.
Every word is taken as the highway's words are, each by State.feedWord, and the highway's framing is left as it was. -/
def Obligations.InjectBlockFeedsTheAssembler : Prop :=
  ∀ (s : State) (f : Frame) (n : SlotNo) (words : List Byte), s.asks 16 f → s.port.mode = .maintenance →
    f.body = put8 n.val ++ words → words.length = 4 ∨ words.length = 5 →
    (∃ (t : State) (count : Nat), exec .injectBlock s = .next (t.replying f .ok false (put8 count
          ++ (match t.assembler n with
            | .hunt => [0, 0]
            | .collect _ held => [1, BitVec.ofNat 8 held.length])))
        ∧ t = words.foldl (fun u b => u.feedWord n ⟨b.msb, b.setWidth 7⟩) s
        ∧ count = ((List.range words.length).filter fun i =>
            State.wordDelivers n ⟨(words.getD i 0).msb, (words.getD i 0).setWidth 7⟩
              ((words.take i).foldl (fun u b => u.feedWord n ⟨b.msb, b.setWidth 7⟩) s)).length
        ∧ t.qh.framing = s.qh.framing ∧ t.qh.missing = s.qh.missing ∧ t.qh.pulseMode = s.qh.pulseMode
        ∧ t.port = s.port ∧ t.time = s.time ∧ t.dh = s.dh)
    ∧ (∀ v1 v2 v3 v4 : WordValue, s.assembler n = .hunt → 64 ≤ v1.toNat → v1.toNat < 96 →
        words = [BitVec.cons true v1, BitVec.cons false v2, BitVec.cons false v3, BitVec.cons false v4] →
        exec .injectBlock s = .next ((s.setAssembler n (.collect 5 [v1, v2, v3, v4])).replying f .ok false [0, 1, 4]))
    ∧ (∀ (v1 v2 v3 v4 : WordValue) (delivered : Byte), s.assembler n = .hunt → v1.toNat < 40 →
        words = [BitVec.cons true v1, BitVec.cons false v2, BitVec.cons false v3, BitVec.cons false v4] →
        delivered = (match blockContents [v1.toNat, v2.toNat, v3.toNat, v4.toNat] with
          | some (.status r _ _) => if (s.ref r).cfg.slot = some n then 1 else 0
          | _ => 0) →
        ∃ t : State, exec .injectBlock s = .next (t.replying f .ok false [delivered, 0, 0]))
    ∧ ∀ (v1 v2 v3 v4 v5 : WordValue) (delivered : Byte), s.assembler n = .hunt → 64 ≤ v1.toNat → v1.toNat < 96 →
        words = [BitVec.cons true v1, BitVec.cons false v2, BitVec.cons false v3, BitVec.cons false v4,
          BitVec.cons false v5] →
        delivered = (match blockContents [v1.toNat, v2.toNat, v3.toNat, v4.toNat, v5.toNat] with
          | some (.card h _) => if (s.shelf h).cfg.reportSlot = some n then 1 else 0
          | _ => 0) →
        ∃ t : State, exec .injectBlock s = .next (t.replying f .ok false [delivered, 0, 0])

/-- COLLECT opens a service on the oldest records, or returns those in service again; END SERVICE removes them, zeroes
the lost tally and judges the attention line afresh. -/
def Obligations.CollectAndEndService : Prop :=
  ∀ (s : State) (f : Frame),
    (∀ n m : Nat, s.asks 18 f → f.body = put8 n → n ≤ 255 → m = max 1 (min 16 n) →
      (s.queue.service = .closed → s.queue.records = [] →
        exec .collect s = .next (s.replying f .ok (decide (m ≠ n))
          (put8 0 ++ put8 0 ++ put16 s.queue.lost ++ put8 (s.queue.records.take s.queue.inService).length)))
      ∧ (s.queue.service = .closed → s.queue.records ≠ [] →
        exec .collect s = .next (({ s with queue := { s.queue with
            service := .opened
            inService := min s.queue.records.length m
            attention := false } }).replying f .ok (decide (m ≠ n))
          (put8 1 ++ put8 s.queue.records.length ++ put16 s.queue.lost ++ put8 (s.queue.records.take m).length
            ++ (s.queue.records.take m).flatMap Record.put)))
      ∧ (s.queue.service = .opened →
        exec .collect s = .next (s.replying f .ok (decide (m ≠ n))
          (put8 1 ++ put8 s.queue.records.length ++ put16 s.queue.lost
            ++ put8 (s.queue.records.take s.queue.inService).length
            ++ (s.queue.records.take s.queue.inService).flatMap Record.put))))
    ∧ (s.asks 19 f → f.body = [] →
      (s.queue.service = .closed → exec .endService s = .next (s.replying f .noService false []))
      ∧ (s.queue.service = .opened → ∃ q : ReportQueue,
        exec .endService s = .next (({ s with queue := q }).replying f .ok false
          (put8 (s.queue.records.take s.queue.inService).length ++ put16 s.queue.lost ++ put8 q.records.length))
        ∧ q = ⟨s.queue.records.drop s.queue.inService, .closed, 0, 0, s.queue.threshold, s.queue.ageLimit,
            q.attentionCondition s.now⟩))

/-- SET MODE stores the mode and posts MODE_CHANGED where it changes; from MAINTENANCE to NORMAL every grade override
becomes absent and every change of grade is handed on; that the REF_GRADE of FEEDs stand after those of the other
references is the model's reading (log 16). RESET forms an OK reply with no results and changes nothing else; its reply
resets the part at its end. -/
def Obligations.SetModeAndReset : Prop :=
  (∀ (s : State) (f : Frame) (n : Nat), s.asks 20 f → f.body = put8 n → n ≤ 255 →
     (1 < n → exec .setMode s = .next (s.replying f .badValue false []))
     ∧ (n = s.port.mode.code → exec .setMode s = .next (s.replying f .ok false (put8 n)))
     ∧ (n = 1 → s.port.mode = .normal → exec .setMode s = .next ((State.post (.modeChanged .maintenance)
         { s with port := { s.port with mode := .maintenance } }).replying f .ok false (put8 1)))
     ∧ (n = 0 → s.port.mode = .maintenance → ∃ t : State, exec .setMode s = .next (t.replying f .ok false (put8 0))
         ∧ t.port = { s.port with mode := .normal }
         ∧ (∀ r : RefNo, t.ref r = { s.ref r with run := { (s.ref r).run with override := none } })
         ∧ t.queue = (s.postAll (.modeChanged .normal :: gradeReports s t)).queue
         ∧ t.engine = { s.engine with passPending := s.engine.passPending || !(gradeReports s t).isEmpty }
         ∧ t = { s with
             port := t.port
             refs := { s.refs with records := t.refs.records }
             engine := t.engine
             queue := t.queue }))
  ∧ (∀ (s : State) (f : Frame), s.asks 22 f → f.body = [] →
       exec .reset s = .next (s.replying f .ok false [])
       ∧ ∃ r : Sending, (s.replying f .ok false []).port.transmit = some r ∧ r.resetAtEnd = true)

/-- R164: READ STATUS carries no body, changes no state and replies with the mode, office time, the number of records,
the service state and the alignment, in both modes. -/
def Obligations.ReadStatus : Prop :=
  ∀ (s : State) (f : Frame), s.asks 21 f →
    (f.body = [] → exec .readStatus s = .next (s.replying f .ok false
      ([if s.port.mode = .normal then 0 else 1] ++ put32 s.time.officeTime
        ++ [BitVec.ofNat 8 s.queue.records.length, if s.queue.service = .closed then 0 else 1,
          if s.qh.framing = none then 0 else 1])))
    ∧ (f.body ≠ [] → exec .readStatus s = .next (s.replying f .badLength false []))

/-! ## The Report Queue -/

/-- A report that its subject's mask lets through coalesces, is appended, or is lost; only an appended one has the
attention line judged, by the condition of R149, and posting changes nothing but the queue. -/
def Obligations.ReportsReachTheQueue : Prop :=
  (∀ (s : State) (rep : Report),
     s.post rep = { s with queue := (s.post rep).queue }
     ∧ (∀ r : RefNo, rep.subject = .reference r → (s.ref r).cfg.reportMask.getLsbD (rep.kindNumber - 1) = false →
         s.post rep = s)
     ∧ (∀ h : ShelfNo, rep.subject = .shelf h → (s.shelf h).cfg.reportMask.getLsbD (rep.kindNumber - 8) = false →
         s.post rep = s)
     ∧ ((∀ r : RefNo, rep.subject = .reference r → (s.ref r).cfg.reportMask.getLsbD (rep.kindNumber - 1) = true) →
         (∀ h : ShelfNo, rep.subject = .shelf h → (s.shelf h).cfg.reportMask.getLsbD (rep.kindNumber - 8) = true) →
         (∀ (older : List Record) (newest : Record), s.queue.records = older ++ [newest] →
           s.queue.inService ≤ older.length → newest.report = rep → newest.count < 63 →
           (s.post rep).queue = { s.queue with
             records := older ++ [⟨rep, newest.first, s.now, newest.count + 1⟩] })
         ∧ ((s.queue.records = [] ∨ ∃ (older : List Record) (newest : Record), s.queue.records = older ++ [newest]
               ∧ (older.length < s.queue.inService ∨ newest.report ≠ rep ∨ 63 ≤ newest.count)) →
           (s.queue.records.length < 64 → ∃ q : ReportQueue, (s.post rep).queue = q
             ∧ q = { s.queue with
                 records := s.queue.records ++ [⟨rep, s.now, s.now, 1⟩]
                 attention := q.attentionCondition s.now })
           ∧ (64 ≤ s.queue.records.length →
             (s.post rep).queue = { s.queue with lost := min (s.queue.lost + 1) 65535 }))))
  ∧ (∀ (q : ReportQueue) (now : Nat),
       (q.attentionCondition now = true ↔ q.service = .closed
         ∧ (q.threshold ≤ q.records.length
           ∨ (0 < q.ageLimit ∧ ∃ oldest rest, q.records = oldest :: rest ∧ q.ageLimit ≤ now - oldest.first))))

/-! ## Invariants -/

/-- Every step keeps the Report Queue within what R146 gives it: its records and their counts and times, the service,
the lost tally and the settings, with the attention line on its condition. -/
def Obligations.EveryStepKeepsTheReportQueue : Prop :=
  ∀ s t : State, step s = .next t → s.queueSound → t.queueSound

/-- Every step keeps office time at a tenth of the tick events and the outgoing highway within its ranges, and keeps the
receivers: assemblers hold one unfinished block each, at most two frames wait, and a reply is sent only for a frame
that is held. -/
def Obligations.EveryStepKeepsClocksAndReceivers : Prop :=
  (∀ s t : State, step s = .next t → s.clocksSound → t.clocksSound)
  ∧ (∀ s t : State, step s = .next t → s.inputsSound → t.inputsSound)

/-- Every step keeps every channel sound: the filter is empty exactly in UNMEASURED, a gate is in progress exactly
while PRESENT, and every offset lies within ±400,000. -/
def Obligations.EveryStepKeepsTheChannels : Prop :=
  ∀ s t : State, step s = .next t → s.channelsSound → t.channelsSound

/-- Every step keeps availability in agreement with the defect condition, the timers with the availability, and the
overrides absent in NORMAL mode. -/
def Obligations.EveryStepKeepsTheReferences : Prop :=
  ∀ s t : State, step s = .next t → s.referencesSound → t.referencesSound

/-- Every step keeps every grade held or derived at 1 to 12, or 15. -/
def Obligations.EveryStepKeepsTheGrades : Prop :=
  ∀ s t : State, step s = .next t → s.gradesSound → t.gradesSound

/-- Every step keeps every selection on a usable entry of the shelf's list that is not locked out. -/
def Obligations.EveryStepKeepsTheSelections : Prop :=
  ∀ s t : State, step s = .next t → s.selectionsSound → t.selectionsSound

/-- Every step keeps every chain within the depth limit, so no chain ever returns to itself. -/
def Obligations.EveryStepKeepsTheChains : Prop :=
  ∀ s t : State, step s = .next t → s.chainsSound → t.chainsSound

/-- The state after reset meets every invariant. -/
def Obligations.ResetMeetsEveryInvariant : Prop :=
  State.reset.queueSound ∧ State.reset.clocksSound ∧ State.reset.inputsSound ∧ State.reset.channelsSound
    ∧ State.reset.referencesSound ∧ State.reset.gradesSound ∧ State.reset.selectionsSound ∧ State.reset.chainsSound
end

