-- ==== Sys2Proof/Laws/State.lean ====
section
/-!
SUPPORT. One equation for each field of the state and each update of it, so that no proof unfolds a record update.
-/

namespace Sys2Proof.Machine

open Sys2Proof

/-! ## setRef -/

@[simp] theorem State.setRef_time (r : RefNo) (x : RefRecord) (s : State) : (s.setRef r x).time = s.time := rfl
@[simp] theorem State.setRef_monitor (r : RefNo) (x : RefRecord) (s : State) :
    (s.setRef r x).monitor = s.monitor := rfl
@[simp] theorem State.setRef_qh (r : RefNo) (x : RefRecord) (s : State) : (s.setRef r x).qh = s.qh := rfl
@[simp] theorem State.setRef_engine (r : RefNo) (x : RefRecord) (s : State) : (s.setRef r x).engine = s.engine := rfl
@[simp] theorem State.setRef_dh (r : RefNo) (x : RefRecord) (s : State) : (s.setRef r x).dh = s.dh := rfl
@[simp] theorem State.setRef_queue (r : RefNo) (x : RefRecord) (s : State) : (s.setRef r x).queue = s.queue := rfl
@[simp] theorem State.setRef_port (r : RefNo) (x : RefRecord) (s : State) : (s.setRef r x).port = s.port := rfl
@[simp] theorem State.setRef_resetHeld (r : RefNo) (x : RefRecord) (s : State) :
    (s.setRef r x).resetHeld = s.resetHeld := rfl
@[simp] theorem State.setRef_pending (r : RefNo) (x : RefRecord) (s : State) :
    (s.setRef r x).pending = s.pending := rfl

/-! ## setChan -/

@[simp] theorem State.setChan_time (r : RefNo) (x : Channel) (s : State) : (s.setChan r x).time = s.time := rfl
@[simp] theorem State.setChan_refs (r : RefNo) (x : Channel) (s : State) : (s.setChan r x).refs = s.refs := rfl
@[simp] theorem State.setChan_qh (r : RefNo) (x : Channel) (s : State) : (s.setChan r x).qh = s.qh := rfl
@[simp] theorem State.setChan_engine (r : RefNo) (x : Channel) (s : State) : (s.setChan r x).engine = s.engine := rfl
@[simp] theorem State.setChan_dh (r : RefNo) (x : Channel) (s : State) : (s.setChan r x).dh = s.dh := rfl
@[simp] theorem State.setChan_queue (r : RefNo) (x : Channel) (s : State) : (s.setChan r x).queue = s.queue := rfl
@[simp] theorem State.setChan_port (r : RefNo) (x : Channel) (s : State) : (s.setChan r x).port = s.port := rfl
@[simp] theorem State.setChan_resetHeld (r : RefNo) (x : Channel) (s : State) :
    (s.setChan r x).resetHeld = s.resetHeld := rfl
@[simp] theorem State.setChan_pending (r : RefNo) (x : Channel) (s : State) :
    (s.setChan r x).pending = s.pending := rfl

/-! ## setShelf -/

@[simp] theorem State.setShelf_time (h : ShelfNo) (x : Shelf) (s : State) : (s.setShelf h x).time = s.time := rfl
@[simp] theorem State.setShelf_monitor (h : ShelfNo) (x : Shelf) (s : State) :
    (s.setShelf h x).monitor = s.monitor := rfl
@[simp] theorem State.setShelf_refs (h : ShelfNo) (x : Shelf) (s : State) : (s.setShelf h x).refs = s.refs := rfl
@[simp] theorem State.setShelf_qh (h : ShelfNo) (x : Shelf) (s : State) : (s.setShelf h x).qh = s.qh := rfl
@[simp] theorem State.setShelf_dh (h : ShelfNo) (x : Shelf) (s : State) : (s.setShelf h x).dh = s.dh := rfl
@[simp] theorem State.setShelf_queue (h : ShelfNo) (x : Shelf) (s : State) : (s.setShelf h x).queue = s.queue := rfl
@[simp] theorem State.setShelf_port (h : ShelfNo) (x : Shelf) (s : State) : (s.setShelf h x).port = s.port := rfl
@[simp] theorem State.setShelf_resetHeld (h : ShelfNo) (x : Shelf) (s : State) :
    (s.setShelf h x).resetHeld = s.resetHeld := rfl
@[simp] theorem State.setShelf_pending (h : ShelfNo) (x : Shelf) (s : State) :
    (s.setShelf h x).pending = s.pending := rfl

/-! ## leavePassPending -/

@[simp] theorem State.leavePassPending_time (s : State) : (s.leavePassPending).time = s.time := rfl
@[simp] theorem State.leavePassPending_monitor (s : State) : (s.leavePassPending).monitor = s.monitor := rfl
@[simp] theorem State.leavePassPending_refs (s : State) : (s.leavePassPending).refs = s.refs := rfl
@[simp] theorem State.leavePassPending_qh (s : State) : (s.leavePassPending).qh = s.qh := rfl
@[simp] theorem State.leavePassPending_dh (s : State) : (s.leavePassPending).dh = s.dh := rfl
@[simp] theorem State.leavePassPending_queue (s : State) : (s.leavePassPending).queue = s.queue := rfl
@[simp] theorem State.leavePassPending_port (s : State) : (s.leavePassPending).port = s.port := rfl
@[simp] theorem State.leavePassPending_resetHeld (s : State) : (s.leavePassPending).resetHeld = s.resetHeld := rfl
@[simp] theorem State.leavePassPending_pending (s : State) : (s.leavePassPending).pending = s.pending := rfl

/-! ## setAssembler -/

@[simp] theorem State.setAssembler_time (n : SlotNo) (a : Assembler) (s : State) :
    (s.setAssembler n a).time = s.time := rfl
@[simp] theorem State.setAssembler_monitor (n : SlotNo) (a : Assembler) (s : State) :
    (s.setAssembler n a).monitor = s.monitor := rfl
@[simp] theorem State.setAssembler_refs (n : SlotNo) (a : Assembler) (s : State) :
    (s.setAssembler n a).refs = s.refs := rfl
@[simp] theorem State.setAssembler_engine (n : SlotNo) (a : Assembler) (s : State) :
    (s.setAssembler n a).engine = s.engine := rfl
@[simp] theorem State.setAssembler_dh (n : SlotNo) (a : Assembler) (s : State) : (s.setAssembler n a).dh = s.dh := rfl
@[simp] theorem State.setAssembler_queue (n : SlotNo) (a : Assembler) (s : State) :
    (s.setAssembler n a).queue = s.queue := rfl
@[simp] theorem State.setAssembler_port (n : SlotNo) (a : Assembler) (s : State) :
    (s.setAssembler n a).port = s.port := rfl
@[simp] theorem State.setAssembler_resetHeld (n : SlotNo) (a : Assembler) (s : State) :
    (s.setAssembler n a).resetHeld = s.resetHeld := rfl
@[simp] theorem State.setAssembler_pending (n : SlotNo) (a : Assembler) (s : State) :
    (s.setAssembler n a).pending = s.pending := rfl

/-! ## setDhSlot -/

@[simp] theorem State.setDhSlot_time (n : SlotNo) (x : DhSlot) (s : State) : (s.setDhSlot n x).time = s.time := rfl
@[simp] theorem State.setDhSlot_monitor (n : SlotNo) (x : DhSlot) (s : State) :
    (s.setDhSlot n x).monitor = s.monitor := rfl
@[simp] theorem State.setDhSlot_refs (n : SlotNo) (x : DhSlot) (s : State) : (s.setDhSlot n x).refs = s.refs := rfl
@[simp] theorem State.setDhSlot_qh (n : SlotNo) (x : DhSlot) (s : State) : (s.setDhSlot n x).qh = s.qh := rfl
@[simp] theorem State.setDhSlot_engine (n : SlotNo) (x : DhSlot) (s : State) :
    (s.setDhSlot n x).engine = s.engine := rfl
@[simp] theorem State.setDhSlot_queue (n : SlotNo) (x : DhSlot) (s : State) : (s.setDhSlot n x).queue = s.queue := rfl
@[simp] theorem State.setDhSlot_port (n : SlotNo) (x : DhSlot) (s : State) : (s.setDhSlot n x).port = s.port := rfl
@[simp] theorem State.setDhSlot_resetHeld (n : SlotNo) (x : DhSlot) (s : State) :
    (s.setDhSlot n x).resetHeld = s.resetHeld := rfl
@[simp] theorem State.setDhSlot_pending (n : SlotNo) (x : DhSlot) (s : State) :
    (s.setDhSlot n x).pending = s.pending := rfl

/-! ## setRotation -/

@[simp] theorem State.setRotation_time (j : Fin 16) (r : RefNo) (s : State) : (s.setRotation j r).time = s.time := rfl
@[simp] theorem State.setRotation_monitor (j : Fin 16) (r : RefNo) (s : State) :
    (s.setRotation j r).monitor = s.monitor := rfl
@[simp] theorem State.setRotation_refs (j : Fin 16) (r : RefNo) (s : State) : (s.setRotation j r).refs = s.refs := rfl
@[simp] theorem State.setRotation_qh (j : Fin 16) (r : RefNo) (s : State) : (s.setRotation j r).qh = s.qh := rfl
@[simp] theorem State.setRotation_engine (j : Fin 16) (r : RefNo) (s : State) :
    (s.setRotation j r).engine = s.engine := rfl
@[simp] theorem State.setRotation_queue (j : Fin 16) (r : RefNo) (s : State) :
    (s.setRotation j r).queue = s.queue := rfl
@[simp] theorem State.setRotation_port (j : Fin 16) (r : RefNo) (s : State) : (s.setRotation j r).port = s.port := rfl
@[simp] theorem State.setRotation_resetHeld (j : Fin 16) (r : RefNo) (s : State) :
    (s.setRotation j r).resetHeld = s.resetHeld := rfl
@[simp] theorem State.setRotation_pending (j : Fin 16) (r : RefNo) (s : State) :
    (s.setRotation j r).pending = s.pending := rfl

/-! ## huntAgain -/

@[simp] theorem State.huntAgain_time (s : State) : (s.huntAgain).time = s.time := rfl
@[simp] theorem State.huntAgain_monitor (s : State) : (s.huntAgain).monitor = s.monitor := rfl
@[simp] theorem State.huntAgain_refs (s : State) : (s.huntAgain).refs = s.refs := rfl
@[simp] theorem State.huntAgain_qh (s : State) : (s.huntAgain).qh = s.qh := rfl
@[simp] theorem State.huntAgain_engine (s : State) : (s.huntAgain).engine = s.engine := rfl
@[simp] theorem State.huntAgain_dh (s : State) : (s.huntAgain).dh = s.dh := rfl
@[simp] theorem State.huntAgain_queue (s : State) : (s.huntAgain).queue = s.queue := rfl
@[simp] theorem State.huntAgain_resetHeld (s : State) : (s.huntAgain).resetHeld = s.resetHeld := rfl
@[simp] theorem State.huntAgain_pending (s : State) : (s.huntAgain).pending = s.pending := rfl

/-! ## receiveIn -/

@[simp] theorem State.receiveIn_time (x : Receive) (s : State) : (s.receiveIn x).time = s.time := rfl
@[simp] theorem State.receiveIn_monitor (x : Receive) (s : State) : (s.receiveIn x).monitor = s.monitor := rfl
@[simp] theorem State.receiveIn_refs (x : Receive) (s : State) : (s.receiveIn x).refs = s.refs := rfl
@[simp] theorem State.receiveIn_qh (x : Receive) (s : State) : (s.receiveIn x).qh = s.qh := rfl
@[simp] theorem State.receiveIn_engine (x : Receive) (s : State) : (s.receiveIn x).engine = s.engine := rfl
@[simp] theorem State.receiveIn_dh (x : Receive) (s : State) : (s.receiveIn x).dh = s.dh := rfl
@[simp] theorem State.receiveIn_queue (x : Receive) (s : State) : (s.receiveIn x).queue = s.queue := rfl
@[simp] theorem State.receiveIn_resetHeld (x : Receive) (s : State) : (s.receiveIn x).resetHeld = s.resetHeld := rfl
@[simp] theorem State.receiveIn_pending (x : Receive) (s : State) : (s.receiveIn x).pending = s.pending := rfl

/-! ## setHighway -/

@[simp] theorem State.setHighway_time (m : PulseMode) (e : Bool) (s : State) : (s.setHighway m e).time = s.time := rfl
@[simp] theorem State.setHighway_monitor (m : PulseMode) (e : Bool) (s : State) :
    (s.setHighway m e).monitor = s.monitor := rfl
@[simp] theorem State.setHighway_refs (m : PulseMode) (e : Bool) (s : State) : (s.setHighway m e).refs = s.refs := rfl
@[simp] theorem State.setHighway_engine (m : PulseMode) (e : Bool) (s : State) :
    (s.setHighway m e).engine = s.engine := rfl
@[simp] theorem State.setHighway_queue (m : PulseMode) (e : Bool) (s : State) :
    (s.setHighway m e).queue = s.queue := rfl
@[simp] theorem State.setHighway_port (m : PulseMode) (e : Bool) (s : State) : (s.setHighway m e).port = s.port := rfl
@[simp] theorem State.setHighway_resetHeld (m : PulseMode) (e : Bool) (s : State) :
    (s.setHighway m e).resetHeld = s.resetHeld := rfl
@[simp] theorem State.setHighway_pending (m : PulseMode) (e : Bool) (s : State) :
    (s.setHighway m e).pending = s.pending := rfl

/-! ## clearCounters -/

@[simp] theorem State.clearCounters_time (s : State) : (s.clearCounters).time = s.time := rfl
@[simp] theorem State.clearCounters_monitor (s : State) : (s.clearCounters).monitor = s.monitor := rfl
@[simp] theorem State.clearCounters_refs (s : State) : (s.clearCounters).refs = s.refs := rfl
@[simp] theorem State.clearCounters_engine (s : State) : (s.clearCounters).engine = s.engine := rfl
@[simp] theorem State.clearCounters_dh (s : State) : (s.clearCounters).dh = s.dh := rfl
@[simp] theorem State.clearCounters_queue (s : State) : (s.clearCounters).queue = s.queue := rfl
@[simp] theorem State.clearCounters_port (s : State) : (s.clearCounters).port = s.port := rfl
@[simp] theorem State.clearCounters_resetHeld (s : State) : (s.clearCounters).resetHeld = s.resetHeld := rfl
@[simp] theorem State.clearCounters_pending (s : State) : (s.clearCounters).pending = s.pending := rfl

/-! ## setReporting -/

@[simp] theorem State.setReporting_time (n a : Nat) (s : State) : (s.setReporting n a).time = s.time := rfl
@[simp] theorem State.setReporting_monitor (n a : Nat) (s : State) : (s.setReporting n a).monitor = s.monitor := rfl
@[simp] theorem State.setReporting_refs (n a : Nat) (s : State) : (s.setReporting n a).refs = s.refs := rfl
@[simp] theorem State.setReporting_qh (n a : Nat) (s : State) : (s.setReporting n a).qh = s.qh := rfl
@[simp] theorem State.setReporting_engine (n a : Nat) (s : State) : (s.setReporting n a).engine = s.engine := rfl
@[simp] theorem State.setReporting_dh (n a : Nat) (s : State) : (s.setReporting n a).dh = s.dh := rfl
@[simp] theorem State.setReporting_port (n a : Nat) (s : State) : (s.setReporting n a).port = s.port := rfl
@[simp] theorem State.setReporting_resetHeld (n a : Nat) (s : State) :
    (s.setReporting n a).resetHeld = s.resetHeld := rfl
@[simp] theorem State.setReporting_pending (n a : Nat) (s : State) : (s.setReporting n a).pending = s.pending := rfl

/-! ## setLimits -/

@[simp] theorem State.setLimits_time (d p c : Nat) (s : State) : (s.setLimits d p c).time = s.time := rfl
@[simp] theorem State.setLimits_monitor (d p c : Nat) (s : State) : (s.setLimits d p c).monitor = s.monitor := rfl
@[simp] theorem State.setLimits_qh (d p c : Nat) (s : State) : (s.setLimits d p c).qh = s.qh := rfl
@[simp] theorem State.setLimits_dh (d p c : Nat) (s : State) : (s.setLimits d p c).dh = s.dh := rfl
@[simp] theorem State.setLimits_queue (d p c : Nat) (s : State) : (s.setLimits d p c).queue = s.queue := rfl
@[simp] theorem State.setLimits_port (d p c : Nat) (s : State) : (s.setLimits d p c).port = s.port := rfl
@[simp] theorem State.setLimits_resetHeld (d p c : Nat) (s : State) :
    (s.setLimits d p c).resetHeld = s.resetHeld := rfl
@[simp] theorem State.setLimits_pending (d p c : Nat) (s : State) : (s.setLimits d p c).pending = s.pending := rfl

/-! ## setHolds -/

@[simp] theorem State.setHolds_time (named : ShelfNo → Bool) (on : Bool) (s : State) :
    (s.setHolds named on).time = s.time := by simp only [State.setHolds]
@[simp] theorem State.setHolds_monitor (named : ShelfNo → Bool) (on : Bool) (s : State) :
    (s.setHolds named on).monitor = s.monitor := by simp only [State.setHolds]
@[simp] theorem State.setHolds_refs (named : ShelfNo → Bool) (on : Bool) (s : State) :
    (s.setHolds named on).refs = s.refs := by simp only [State.setHolds]
@[simp] theorem State.setHolds_qh (named : ShelfNo → Bool) (on : Bool) (s : State) :
    (s.setHolds named on).qh = s.qh := by simp only [State.setHolds]
@[simp] theorem State.setHolds_dh (named : ShelfNo → Bool) (on : Bool) (s : State) :
    (s.setHolds named on).dh = s.dh := by simp only [State.setHolds]
@[simp] theorem State.setHolds_queue (named : ShelfNo → Bool) (on : Bool) (s : State) :
    (s.setHolds named on).queue = s.queue := by simp only [State.setHolds]
@[simp] theorem State.setHolds_port (named : ShelfNo → Bool) (on : Bool) (s : State) :
    (s.setHolds named on).port = s.port := by simp only [State.setHolds]
@[simp] theorem State.setHolds_resetHeld (named : ShelfNo → Bool) (on : Bool) (s : State) :
    (s.setHolds named on).resetHeld = s.resetHeld := by simp only [State.setHolds]
@[simp] theorem State.setHolds_pending (named : ShelfNo → Bool) (on : Bool) (s : State) :
    (s.setHolds named on).pending = s.pending := by simp only [State.setHolds]

/-! ## clearOverrides -/

@[simp] theorem State.clearOverrides_time (s : State) :
    (s.clearOverrides).time = s.time := by simp only [State.clearOverrides]
@[simp] theorem State.clearOverrides_monitor (s : State) :
    (s.clearOverrides).monitor = s.monitor := by simp only [State.clearOverrides]
@[simp] theorem State.clearOverrides_qh (s : State) :
    (s.clearOverrides).qh = s.qh := by simp only [State.clearOverrides]
@[simp] theorem State.clearOverrides_engine (s : State) :
    (s.clearOverrides).engine = s.engine := by simp only [State.clearOverrides]
@[simp] theorem State.clearOverrides_dh (s : State) :
    (s.clearOverrides).dh = s.dh := by simp only [State.clearOverrides]
@[simp] theorem State.clearOverrides_queue (s : State) :
    (s.clearOverrides).queue = s.queue := by simp only [State.clearOverrides]
@[simp] theorem State.clearOverrides_port (s : State) :
    (s.clearOverrides).port = s.port := by simp only [State.clearOverrides]
@[simp] theorem State.clearOverrides_resetHeld (s : State) :
    (s.clearOverrides).resetHeld = s.resetHeld := by simp only [State.clearOverrides]
@[simp] theorem State.clearOverrides_pending (s : State) :
    (s.clearOverrides).pending = s.pending := by simp only [State.clearOverrides]

/-! ## replying -/

@[simp] theorem State.replying_time (f : Frame) (st : Status) (c : Bool) (rs : List Byte) (s : State) :
    (s.replying f st c rs).time = s.time := rfl
@[simp] theorem State.replying_monitor (f : Frame) (st : Status) (c : Bool) (rs : List Byte) (s : State) :
    (s.replying f st c rs).monitor = s.monitor := rfl
@[simp] theorem State.replying_refs (f : Frame) (st : Status) (c : Bool) (rs : List Byte) (s : State) :
    (s.replying f st c rs).refs = s.refs := rfl
@[simp] theorem State.replying_qh (f : Frame) (st : Status) (c : Bool) (rs : List Byte) (s : State) :
    (s.replying f st c rs).qh = s.qh := rfl
@[simp] theorem State.replying_engine (f : Frame) (st : Status) (c : Bool) (rs : List Byte) (s : State) :
    (s.replying f st c rs).engine = s.engine := rfl
@[simp] theorem State.replying_dh (f : Frame) (st : Status) (c : Bool) (rs : List Byte) (s : State) :
    (s.replying f st c rs).dh = s.dh := rfl
@[simp] theorem State.replying_queue (f : Frame) (st : Status) (c : Bool) (rs : List Byte) (s : State) :
    (s.replying f st c rs).queue = s.queue := rfl
@[simp] theorem State.replying_resetHeld (f : Frame) (st : Status) (c : Bool) (rs : List Byte) (s : State) :
    (s.replying f st c rs).resetHeld = s.resetHeld := rfl
@[simp] theorem State.replying_pending (f : Frame) (st : Status) (c : Bool) (rs : List Byte) (s : State) :
    (s.replying f st c rs).pending = s.pending := rfl

/-! ## samplePin -/

@[simp] theorem State.samplePin_time (r : RefNo) (s : State) : (s.samplePin r).time = s.time := rfl
@[simp] theorem State.samplePin_refs (r : RefNo) (s : State) : (s.samplePin r).refs = s.refs := rfl
@[simp] theorem State.samplePin_qh (r : RefNo) (s : State) : (s.samplePin r).qh = s.qh := rfl
@[simp] theorem State.samplePin_engine (r : RefNo) (s : State) : (s.samplePin r).engine = s.engine := rfl
@[simp] theorem State.samplePin_dh (r : RefNo) (s : State) : (s.samplePin r).dh = s.dh := rfl
@[simp] theorem State.samplePin_queue (r : RefNo) (s : State) : (s.samplePin r).queue = s.queue := rfl
@[simp] theorem State.samplePin_port (r : RefNo) (s : State) : (s.samplePin r).port = s.port := rfl
@[simp] theorem State.samplePin_resetHeld (r : RefNo) (s : State) : (s.samplePin r).resetHeld = s.resetHeld := rfl
@[simp] theorem State.samplePin_pending (r : RefNo) (s : State) : (s.samplePin r).pending = s.pending := rfl

/-! ## closeWatches -/

@[simp] theorem State.closeWatches_time (s : State) :
    (s.closeWatches).time = s.time := by simp only [State.closeWatches]
@[simp] theorem State.closeWatches_refs (s : State) :
    (s.closeWatches).refs = s.refs := by simp only [State.closeWatches]
@[simp] theorem State.closeWatches_qh (s : State) : (s.closeWatches).qh = s.qh := by simp only [State.closeWatches]
@[simp] theorem State.closeWatches_engine (s : State) :
    (s.closeWatches).engine = s.engine := by simp only [State.closeWatches]
@[simp] theorem State.closeWatches_dh (s : State) : (s.closeWatches).dh = s.dh := by simp only [State.closeWatches]
@[simp] theorem State.closeWatches_queue (s : State) :
    (s.closeWatches).queue = s.queue := by simp only [State.closeWatches]
@[simp] theorem State.closeWatches_port (s : State) :
    (s.closeWatches).port = s.port := by simp only [State.closeWatches]
@[simp] theorem State.closeWatches_resetHeld (s : State) :
    (s.closeWatches).resetHeld = s.resetHeld := by simp only [State.closeWatches]
@[simp] theorem State.closeWatches_pending (s : State) :
    (s.closeWatches).pending = s.pending := by simp only [State.closeWatches]

/-! ## passWord -/

@[simp] theorem State.passWord_time (n : SlotNo) (f : Framing) (s : State) : (s.passWord n f).time = s.time := rfl
@[simp] theorem State.passWord_monitor (n : SlotNo) (f : Framing) (s : State) :
    (s.passWord n f).monitor = s.monitor := rfl
@[simp] theorem State.passWord_refs (n : SlotNo) (f : Framing) (s : State) : (s.passWord n f).refs = s.refs := rfl
@[simp] theorem State.passWord_engine (n : SlotNo) (f : Framing) (s : State) :
    (s.passWord n f).engine = s.engine := rfl
@[simp] theorem State.passWord_dh (n : SlotNo) (f : Framing) (s : State) : (s.passWord n f).dh = s.dh := rfl
@[simp] theorem State.passWord_queue (n : SlotNo) (f : Framing) (s : State) : (s.passWord n f).queue = s.queue := rfl
@[simp] theorem State.passWord_port (n : SlotNo) (f : Framing) (s : State) : (s.passWord n f).port = s.port := rfl
@[simp] theorem State.passWord_resetHeld (n : SlotNo) (f : Framing) (s : State) :
    (s.passWord n f).resetHeld = s.resetHeld := rfl
@[simp] theorem State.passWord_pending (n : SlotNo) (f : Framing) (s : State) :
    (s.passWord n f).pending = s.pending := rfl

/-! ## afterTick -/

@[simp] theorem State.afterTick_refs (s : State) : (s.afterTick).refs = s.refs := by simp only [State.afterTick]
@[simp] theorem State.afterTick_engine (s : State) : (s.afterTick).engine = s.engine := by simp only [State.afterTick]
@[simp] theorem State.afterTick_queue (s : State) : (s.afterTick).queue = s.queue := by simp only [State.afterTick]
@[simp] theorem State.afterTick_resetHeld (s : State) :
    (s.afterTick).resetHeld = s.resetHeld := by simp only [State.afterTick]
@[simp] theorem State.afterTick_pending (s : State) :
    (s.afterTick).pending = s.pending := by simp only [State.afterTick]

/-! ## resetBy -/

@[simp] theorem State.resetBy_pending (cause : ResetCause) (s : State) : (s.resetBy cause).pending = s.pending := rfl

/-! ## The rest of a block that is written in part -/

@[simp] theorem State.setRef_planA (r : RefNo) (x : RefRecord) (s : State) :
    (s.setRef r x).refs.planA = s.refs.planA := rfl
@[simp] theorem State.setRef_planB (r : RefNo) (x : RefRecord) (s : State) :
    (s.setRef r x).refs.planB = s.refs.planB := rfl
@[simp] theorem State.setRef_persistence (r : RefNo) (x : RefRecord) (s : State) :
    (s.setRef r x).refs.persistence = s.refs.persistence := rfl
@[simp] theorem State.setChan_trim (r : RefNo) (x : Channel) (s : State) :
    (s.setChan r x).monitor.trim = s.monitor.trim := rfl
@[simp] theorem State.setShelf_depthLimit (h : ShelfNo) (x : Shelf) (s : State) :
    (s.setShelf h x).engine.depthLimit = s.engine.depthLimit := rfl
@[simp] theorem State.setShelf_silenceLimit (h : ShelfNo) (x : Shelf) (s : State) :
    (s.setShelf h x).engine.silenceLimit = s.engine.silenceLimit := rfl
@[simp] theorem State.setShelf_passPending (h : ShelfNo) (x : Shelf) (s : State) :
    (s.setShelf h x).engine.passPending = s.engine.passPending := rfl
@[simp] theorem State.setShelf_pass (h : ShelfNo) (x : Shelf) (s : State) :
    (s.setShelf h x).engine.pass = s.engine.pass := rfl
@[simp] theorem State.setShelf_passCount (h : ShelfNo) (x : Shelf) (s : State) :
    (s.setShelf h x).engine.passCount = s.engine.passCount := rfl
@[simp] theorem State.leavePassPending_shelves (s : State) :
    s.leavePassPending.engine.shelves = s.engine.shelves := rfl
@[simp] theorem State.leavePassPending_depthLimit (s : State) :
    s.leavePassPending.engine.depthLimit = s.engine.depthLimit := rfl
@[simp] theorem State.leavePassPending_silenceLimit (s : State) :
    s.leavePassPending.engine.silenceLimit = s.engine.silenceLimit := rfl
@[simp] theorem State.leavePassPending_passPending (s : State) : s.leavePassPending.engine.passPending = true := rfl
@[simp] theorem State.leavePassPending_pass (s : State) : s.leavePassPending.engine.pass = s.engine.pass := rfl
@[simp] theorem State.leavePassPending_passCount (s : State) :
    s.leavePassPending.engine.passCount = s.engine.passCount := rfl

/-! ## Reading a record after a write -/

theorem State.ref_setRef (r q : RefNo) (x : RefRecord) (s : State) :
    (s.setRef r x).ref q = if r = q then x else s.ref q := by
  by_cases h : r = q
  · subst h; simp [State.ref, State.setRef]
  · have hv : r.val ≠ q.val := fun e => h (Fin.ext e)
    simp [State.ref, State.setRef, h, hv]

@[simp] theorem State.ref_setRef_same (r : RefNo) (x : RefRecord) (s : State) : (s.setRef r x).ref r = x := by
  simp [State.ref_setRef]

theorem State.chan_setChan (r q : RefNo) (x : Channel) (s : State) :
    (s.setChan r x).chan q = if r = q then x else s.chan q := by
  by_cases h : r = q
  · subst h; simp [State.chan, State.setChan]
  · have hv : r.val ≠ q.val := fun e => h (Fin.ext e)
    simp [State.chan, State.setChan, h, hv]

@[simp] theorem State.chan_setChan_same (r : RefNo) (x : Channel) (s : State) : (s.setChan r x).chan r = x := by
  simp [State.chan_setChan]

theorem State.shelf_setShelf (h g : ShelfNo) (x : Shelf) (s : State) :
    (s.setShelf h x).shelf g = if h = g then x else s.shelf g := by
  by_cases e : h = g
  · subst e; simp [State.shelf, State.setShelf]
  · have hv : h.val ≠ g.val := fun c => e (Fin.ext c)
    simp [State.shelf, State.setShelf, e, hv]

@[simp] theorem State.shelf_setShelf_same (h : ShelfNo) (x : Shelf) (s : State) : (s.setShelf h x).shelf h = x := by
  simp [State.shelf_setShelf]

theorem State.assembler_setAssembler (n m : SlotNo) (a : Assembler) (s : State) :
    (s.setAssembler n a).assembler m = if n = m then a else s.assembler m := by
  by_cases h : n = m
  · subst h; simp [State.assembler, State.setAssembler]
  · have hv : n.val ≠ m.val := fun e => h (Fin.ext e)
    simp [State.assembler, State.setAssembler, h, hv]

theorem State.dhSlot_setDhSlot (n m : SlotNo) (x : DhSlot) (s : State) :
    (s.setDhSlot n x).dhSlot m = if n = m then x else s.dhSlot m := by
  by_cases h : n = m
  · subst h; simp [State.dhSlot, State.setDhSlot]
  · have hv : n.val ≠ m.val := fun e => h (Fin.ext e)
    simp [State.dhSlot, State.setDhSlot, h, hv]

theorem State.setChan_setChan (r : RefNo) (x y : Channel) (s : State) :
    (s.setChan r x).setChan r y = s.setChan r y := by
  simp [State.setChan]

theorem State.chan_samplePin (r q : RefNo) (s : State) :
    (s.samplePin r).chan q = if r = q then { s.chan r with pinNow := true } else s.chan q :=
  State.chan_setChan r q _ s

theorem State.chan_closeWatches (r : RefNo) (s : State) : s.closeWatches.chan r = (s.chan r).closeWatch := by
  simp [State.chan, State.closeWatches, mapTable]

@[simp] theorem State.assembler_passWord (n m : SlotNo) (f : Framing) (s : State) :
    (s.passWord n f).assembler m = s.assembler m := rfl

@[simp] theorem State.chan_setRef (r q : RefNo) (x : RefRecord) (s : State) : (s.setRef r x).chan q = s.chan q := rfl
@[simp] theorem State.shelf_setRef (r : RefNo) (h : ShelfNo) (x : RefRecord) (s : State) :
    (s.setRef r x).shelf h = s.shelf h := rfl
@[simp] theorem State.ref_setChan (r q : RefNo) (x : Channel) (s : State) : (s.setChan r x).ref q = s.ref q := rfl
@[simp] theorem State.shelf_setChan (r : RefNo) (h : ShelfNo) (x : Channel) (s : State) :
    (s.setChan r x).shelf h = s.shelf h := rfl
@[simp] theorem State.ref_setShelf (h : ShelfNo) (q : RefNo) (x : Shelf) (s : State) :
    (s.setShelf h x).ref q = s.ref q := rfl
@[simp] theorem State.chan_setShelf (h : ShelfNo) (q : RefNo) (x : Shelf) (s : State) :
    (s.setShelf h x).chan q = s.chan q := rfl
@[simp] theorem State.ref_leavePassPending (q : RefNo) (s : State) : s.leavePassPending.ref q = s.ref q := rfl
@[simp] theorem State.chan_leavePassPending (q : RefNo) (s : State) : s.leavePassPending.chan q = s.chan q := rfl
@[simp] theorem State.shelf_leavePassPending (h : ShelfNo) (s : State) : s.leavePassPending.shelf h = s.shelf h := rfl

end Sys2Proof.Machine
end

