-- ==== Sys2Proof/Laws/Ops.lean ====
section
/-!
SUPPORT. What the shared operations can do, each said once: when an event takes place, what posting a report changes,
what moving a shelf or a reference leaves as it was, and what taking a request answers.
-/

namespace Sys2Proof.Machine

open Sys2Proof

/-! ## Events -/

theorem event_of_running (s : State) (f : State → State) (h : s.resetHeld = false) : event s f = .next (f s) := by
  simp [event, h]

theorem event_of_held (s : State) (f : State → State) (h : s.resetHeld = true) : event s f = .next s := by
  simp [event, h]

theorem eventIf_of_due (d : Bool) (s : State) (f : State → State) (h : s.resetHeld = false) (hd : d = true) :
    eventIf d s f = .next (f s) := by
  simp [eventIf, h, hd]

theorem eventIf_of_not_due (d : Bool) (s : State) (f : State → State) (hd : d = false) : eventIf d s f = .next s := by
  simp [eventIf, hd]

theorem eventIf_of_held (d : Bool) (s : State) (f : State → State) (h : s.resetHeld = true) :
    eventIf d s f = .next s := by
  simp [eventIf, h]

/-- An event answers a next state: the one it makes, or the state it found. -/
theorem event_cases (s : State) (f : State → State) : event s f = .next s ∨ event s f = .next (f s) := by
  unfold event; split
  · exact Or.inl rfl
  · exact Or.inr rfl

theorem eventIf_cases (d : Bool) (s : State) (f : State → State) :
    eventIf d s f = .next s ∨ eventIf d s f = .next (f s) := by
  unfold eventIf; split
  · exact Or.inl rfl
  · exact Or.inr rfl

theorem onRef_of_lt (r : Nat) (h : r < 40) (f : RefNo → Result) : onRef r f = f ⟨r, h⟩ := by simp [onRef, h]
theorem onShelf_of_lt (h : Nat) (g : h < 32) (f : ShelfNo → Result) : onShelf h f = f ⟨h, g⟩ := by simp [onShelf, g]
theorem onSlot_of_lt (n : Nat) (g : n < 48) (f : SlotNo → Result) : onSlot n f = f ⟨n, g⟩ := by simp [onSlot, g]

/-! ## An empty queue -/

theorem State.watchesFull_iff (s : State) : s.watchesFull = true ↔ ∃ r : RefNo, (s.chan r).watchFull = true := by
  simp [State.watchesFull, allRefs, List.any_eq_true, List.mem_finRange]

/-- What a step on an empty queue can do: nothing, close the samples of the tick, or one measurement tick. -/
theorem State.idle_cases (s : State) : s.idle = s ∨ s.idle = s.closeWatches ∨ s.idle = s.afterTick := by
  unfold State.idle
  split
  · exact Or.inl rfl
  · split
    · exact Or.inr (Or.inl rfl)
    · split
      · exact Or.inl rfl
      · exact Or.inr (Or.inr rfl)

@[simp] theorem State.idle_refs (s : State) : s.idle.refs = s.refs := by
  rcases s.idle_cases with h | h | h <;> simp [h]
@[simp] theorem State.idle_engine (s : State) : s.idle.engine = s.engine := by
  rcases s.idle_cases with h | h | h <;> simp [h]
@[simp] theorem State.idle_queue (s : State) : s.idle.queue = s.queue := by
  rcases s.idle_cases with h | h | h <;> simp [h]
@[simp] theorem State.idle_resetHeld (s : State) : s.idle.resetHeld = s.resetHeld := by
  rcases s.idle_cases with h | h | h <;> simp [h]
@[simp] theorem State.idle_pending (s : State) : s.idle.pending = s.pending := by
  rcases s.idle_cases with h | h | h <;> simp [h]

/-! ## Edges and replies -/

/-- EDGE on a pin of the part: no effect where its sample of this tick is taken or in, the sample alone after a high
sample, and else an edge (R27, R28). -/
theorem execEdge_cases (r : RefNo) (s : State) (h : s.resetHeld = false) :
    execEdge r.val s = .next (if (s.chan r).sampleOpen then
      if (s.chan r).pinHigh then s.samplePin r else s.edgeEvent r else s) := by
  rw [execEdge, onRef_of_lt r.val r.isLt]
  rcases (s.chan r).sampleOpen with _ | _
  · exact eventIf_of_not_due false s _ rfl
  · rw [eventIf_of_due true s _ h rfl]
    rcases (s.chan r).pinHigh with _ | _ <;> rfl

theorem State.signalLossDue_closed (r : RefNo) (s : State) (h : s.signalLossDue r = true) :
    (s.chan r).sampleOpen = false := by
  simp_all [State.signalLossDue, Channel.sampleOpen]

/-- The transmit line while a byte is being sent. -/
theorem Port.transmitLine_of_sending (p : Port) (x : Sending) (b : Byte) (rest : List Byte)
    (h : p.transmit = some x) (hx : x.bytes = b :: rest) : p.transmitLine = serialLevel b x.bitTime := by
  simp [Port.transmitLine, Sending.level, h, hx]

/-- The transmit line once every byte of a reply is out. -/
theorem Port.transmitLine_of_sent (p : Port) (x : Sending) (h : p.transmit = some x) (hx : x.bytes = []) :
    p.transmitLine = true := by
  simp [Port.transmitLine, Sending.level, h, hx]

/-- The transmit line between replies. -/
theorem Port.transmitLine_of_idle (p : Port) (h : p.transmit = none) : p.transmitLine = true := by
  simp [Port.transmitLine, h]

@[simp] theorem serialLevel_start (b : Byte) : serialLevel b 0 = false := rfl
@[simp] theorem serialLevel_stop (b : Byte) : serialLevel b 9 = true := rfl

theorem serialLevel_data (b : Byte) (i : Fin 8) : serialLevel b (i.val + 1) = b.getLsbD i.val := by
  have h : i.val + 1 ≤ 8 := i.isLt
  simp [serialLevel, h]

theorem State.endReply_of_reset (s : State) (x : Sending) (h : s.port.transmit = some x) (hx : x.resetAtEnd = true) :
    s.endReply = s.resetBy .request := by
  simp [State.endReply, h, hx]

theorem State.endReply_of_reply (s : State) (x : Sending) (h : s.port.transmit = some x) (hx : x.resetAtEnd = false) :
    s.endReply = { s with port := { s.port with buffer := s.port.buffer.tail, transmit := none } } := by
  simp [State.endReply, h, hx]

/-! ## Posting a report changes the Report Queue and nothing else -/

/-- Every block but the Report Queue. -/
def SameButQueue (s t : State) : Prop := t = { s with queue := t.queue }

theorem SameButQueue.refl (s : State) : SameButQueue s s := rfl

theorem SameButQueue.trans {s t u : State} (a : SameButQueue s t) (b : SameButQueue t u) : SameButQueue s u := by
  unfold SameButQueue at *; rw [b, a]

theorem State.post_same (rep : Report) (s : State) : SameButQueue s (s.post rep) := by
  unfold SameButQueue State.post; split <;> rfl

@[simp] theorem State.post_time (rep : Report) (s : State) : (s.post rep).time = s.time := by
  unfold State.post; split <;> rfl
@[simp] theorem State.post_monitor (rep : Report) (s : State) : (s.post rep).monitor = s.monitor := by
  unfold State.post; split <;> rfl
@[simp] theorem State.post_refs (rep : Report) (s : State) : (s.post rep).refs = s.refs := by
  unfold State.post; split <;> rfl
@[simp] theorem State.post_qh (rep : Report) (s : State) : (s.post rep).qh = s.qh := by
  unfold State.post; split <;> rfl
@[simp] theorem State.post_engine (rep : Report) (s : State) : (s.post rep).engine = s.engine := by
  unfold State.post; split <;> rfl
@[simp] theorem State.post_dh (rep : Report) (s : State) : (s.post rep).dh = s.dh := by
  unfold State.post; split <;> rfl
@[simp] theorem State.post_port (rep : Report) (s : State) : (s.post rep).port = s.port := by
  unfold State.post; split <;> rfl
@[simp] theorem State.post_resetHeld (rep : Report) (s : State) : (s.post rep).resetHeld = s.resetHeld := by
  unfold State.post; split <;> rfl
@[simp] theorem State.post_pending (rep : Report) (s : State) : (s.post rep).pending = s.pending := by
  unfold State.post; split <;> rfl
@[simp] theorem State.ref_post (r : RefNo) (rep : Report) (s : State) : (s.post rep).ref r = s.ref r := by
  simp [State.ref]
@[simp] theorem State.chan_post (r : RefNo) (rep : Report) (s : State) : (s.post rep).chan r = s.chan r := by
  simp [State.chan]
@[simp] theorem State.shelf_post (h : ShelfNo) (rep : Report) (s : State) : (s.post rep).shelf h = s.shelf h := by
  simp [State.shelf]
@[simp] theorem State.now_post (rep : Report) (s : State) : (s.post rep).now = s.now := by simp [State.now]

/-- A report that its mask stops leaves the state as it was (R145). -/
theorem State.post_of_masked (rep : Report) (s : State) (h : s.lets rep = false) : s.post rep = s := by
  simp [State.post, h]

theorem State.post_of_let (rep : Report) (s : State) (h : s.lets rep = true) :
    s.post rep = { s with queue := s.queue.take s.now rep } := by simp [State.post, h]

theorem ReportQueue.judge_service (q : ReportQueue) (n : Nat) : (q.judge n).service = q.service := rfl
theorem ReportQueue.judge_records (q : ReportQueue) (n : Nat) : (q.judge n).records = q.records := rfl

/-- Posting leaves the service and the settings of the queue (R147). -/
theorem ReportQueue.take_keeps (q : ReportQueue) (n : Nat) (rep : Report) :
    (q.take n rep).service = q.service ∧ (q.take n rep).inService = q.inService
      ∧ (q.take n rep).threshold = q.threshold ∧ (q.take n rep).ageLimit = q.ageLimit := by
  unfold ReportQueue.take
  split
  · exact ⟨rfl, rfl, rfl, rfl⟩
  · split <;> exact ⟨rfl, rfl, rfl, rfl⟩

theorem State.post_keepsService (rep : Report) (s : State) : KeepsService s (s.post rep) := by
  unfold State.post
  split
  · exact ReportQueue.take_keeps _ _ _
  · exact ⟨rfl, rfl, rfl, rfl⟩

theorem foldNewest_length (n : Nat) (l : List Record) : (foldNewest n l).length = l.length := by
  induction l with
  | nil => rfl
  | cons x rest ih =>
    cases rest with
    | nil => rfl
    | cons y rest => simpa [foldNewest] using ih

/-- No report makes the queue hold more than 64 records (R147). -/
theorem ReportQueue.take_length (q : ReportQueue) (n : Nat) (rep : Report) (h : q.records.length ≤ 64) :
    (q.take n rep).records.length ≤ 64 := by
  unfold ReportQueue.take
  split
  · simpa [foldNewest_length] using h
  · split
    · simp only [ReportQueue.judge, List.length_append, List.length_singleton]; omega
    · exact h

/-! ## Moving a shelf -/

/-- What a move of a shelf leaves as it was: every block but the shelves, the pending flag and the Report Queue, and
of the shelves the configuration, the hold flag and the card silence. -/
structure ShelfMove (s t : State) : Prop where
  time : t.time = s.time
  monitor : t.monitor = s.monitor
  refs : t.refs = s.refs
  qh : t.qh = s.qh
  dh : t.dh = s.dh
  port : t.port = s.port
  resetHeld : t.resetHeld = s.resetHeld
  pending : t.pending = s.pending
  depthLimit : t.engine.depthLimit = s.engine.depthLimit
  silenceLimit : t.engine.silenceLimit = s.engine.silenceLimit
  pass : t.engine.pass = s.engine.pass
  passCount : t.engine.passCount = s.engine.passCount
  cfg : ∀ h : ShelfNo, (t.shelf h).cfg = (s.shelf h).cfg
  hold : ∀ h : ShelfNo, (t.shelf h).hold = (s.shelf h).hold
  silence : ∀ h : ShelfNo, (t.shelf h).silence = (s.shelf h).silence
  service : KeepsService s t

theorem ShelfMove.refl (s : State) : ShelfMove s s :=
  ⟨rfl, rfl, rfl, rfl, rfl, rfl, rfl, rfl, rfl, rfl, rfl, rfl, fun _ => rfl, fun _ => rfl, fun _ => rfl,
    rfl, rfl, rfl, rfl⟩

theorem ShelfMove.trans {s t u : State} (a : ShelfMove s t) (b : ShelfMove t u) : ShelfMove s u where
  time := b.time.trans a.time
  monitor := b.monitor.trans a.monitor
  refs := b.refs.trans a.refs
  qh := b.qh.trans a.qh
  dh := b.dh.trans a.dh
  port := b.port.trans a.port
  resetHeld := b.resetHeld.trans a.resetHeld
  pending := b.pending.trans a.pending
  depthLimit := b.depthLimit.trans a.depthLimit
  silenceLimit := b.silenceLimit.trans a.silenceLimit
  pass := b.pass.trans a.pass
  passCount := b.passCount.trans a.passCount
  cfg h := (b.cfg h).trans (a.cfg h)
  hold h := (b.hold h).trans (a.hold h)
  silence h := (b.silence h).trans (a.silence h)
  service := ⟨b.service.1.trans a.service.1, b.service.2.1.trans a.service.2.1,
    b.service.2.2.1.trans a.service.2.2.1, b.service.2.2.2.trans a.service.2.2.2⟩

theorem State.post_shelfMove (rep : Report) (s : State) : ShelfMove s (s.post rep) where
  time := by simp
  monitor := by simp
  refs := by simp
  qh := by simp
  dh := by simp
  port := by simp
  resetHeld := by simp
  pending := by simp
  depthLimit := by simp
  silenceLimit := by simp
  pass := by simp
  passCount := by simp
  cfg := by simp
  hold := by simp
  silence := by simp
  service := State.post_keepsService rep s

theorem State.leavePassPending_shelfMove (s : State) : ShelfMove s s.leavePassPending :=
  ⟨rfl, rfl, rfl, rfl, rfl, rfl, rfl, rfl, rfl, rfl, rfl, rfl, fun _ => rfl, fun _ => rfl, fun _ => rfl,
    rfl, rfl, rfl, rfl⟩

/-- A shelf record written with its configuration, hold flag and card silence as they were. -/
theorem State.setShelf_shelfMove (h : ShelfNo) (x : Shelf) (s : State) (c : x.cfg = (s.shelf h).cfg)
    (o : x.hold = (s.shelf h).hold) (l : x.silence = (s.shelf h).silence) : ShelfMove s (s.setShelf h x) where
  time := rfl
  monitor := rfl
  refs := rfl
  qh := rfl
  dh := rfl
  port := rfl
  resetHeld := rfl
  pending := rfl
  depthLimit := rfl
  silenceLimit := rfl
  pass := rfl
  passCount := rfl
  cfg g := by
    rw [State.shelf_setShelf]; split
    · rename_i e; subst e; exact c
    · rfl
  hold g := by
    rw [State.shelf_setShelf]; split
    · rename_i e; subst e; exact o
    · rfl
  silence g := by
    rw [State.shelf_setShelf]; split
    · rename_i e; subst e; exact l
    · rfl
  service := ⟨rfl, rfl, rfl, rfl⟩

theorem State.setAdmission_shelfMove (h : ShelfNo) (a : Admission) (s : State) : ShelfMove s (s.setAdmission h a) :=
  ShelfMove.trans (t := s.setShelf h { s.shelf h with admission := a }) (State.setShelf_shelfMove h _ s rfl rfl rfl)
    (State.leavePassPending_shelfMove _)

theorem State.mapCard_shelfMove (h : ShelfNo) (f : JoinedCard → JoinedCard) (s : State) :
    ShelfMove s (s.mapCard h f) := by
  unfold State.mapCard
  split
  · exact State.setShelf_shelfMove h _ s rfl rfl rfl
  · exact ShelfMove.refl s

theorem State.setTiming_shelfMove (h : ShelfNo) (t : Timing) (s : State) : ShelfMove s (s.setTiming h t) :=
  (State.mapCard_shelfMove h _ s).trans (State.leavePassPending_shelfMove _)

theorem State.moveShelf_shelfMove (h : ShelfNo) (t : Timing) (s : State) : ShelfMove s (s.moveShelf h t) :=
  (State.setTiming_shelfMove h t s).trans (State.post_shelfMove _ _)

theorem State.leaveLocked_shelfMove (h : ShelfNo) (s : State) : ShelfMove s (s.leaveLocked h) := by
  unfold State.leaveLocked
  split
  · exact State.moveShelf_shelfMove h _ s
  · exact ShelfMove.refl s

theorem State.leaveAcquire_shelfMove (h : ShelfNo) (rep : RefNo → Report) (s : State) :
    ShelfMove s (s.leaveAcquire h rep) := by
  unfold State.leaveAcquire
  split
  · exact ((State.setTiming_shelfMove h _ s).trans (State.post_shelfMove _ _)).trans (State.post_shelfMove _ _)
  · exact ShelfMove.refl s

theorem State.takeOff_shelfMove (h : ShelfNo) (r : RefNo) (s : State) : ShelfMove s (s.takeOff h r) := by
  unfold State.takeOff
  split
  · split
    · exact State.leaveAcquire_shelfMove h _ s
    · exact State.leaveLocked_shelfMove h s
  · exact ShelfMove.refl s

theorem State.enterAcquire_shelfMove (h : ShelfNo) (r : RefNo) (s : State) : ShelfMove s (s.enterAcquire h r) := by
  unfold State.enterAcquire
  split
  · exact State.moveShelf_shelfMove h _ s
  · exact ShelfMove.refl s

theorem State.markRefused_shelfMove (h : ShelfNo) (r : RefNo) (s : State) : ShelfMove s (s.markRefused h r) :=
  State.setShelf_shelfMove h _ s rfl rfl rfl

theorem State.dropRequest_shelfMove (h : ShelfNo) (s : State) : ShelfMove s (s.dropRequest h) := by
  unfold State.dropRequest
  split
  · exact ShelfMove.refl s
  · exact (State.mapCard_shelfMove h _ s).trans (State.leavePassPending_shelfMove _)
  · exact ((State.mapCard_shelfMove h _ s).trans (State.leavePassPending_shelfMove _)).trans
      (State.post_shelfMove _ _)

theorem State.ageHoldover_shelfMove (h : ShelfNo) (s : State) : ShelfMove s (s.ageHoldover h) :=
  ((State.mapCard_shelfMove h _ s).trans (State.leavePassPending_shelfMove _)).trans (State.post_shelfMove _ _)

theorem State.applyChoice_shelfMove (h : ShelfNo) (c : Option RefNo) (s : State) : ShelfMove s (s.applyChoice h c) := by
  unfold State.applyChoice
  split
  · exact State.enterAcquire_shelfMove h _ s
  · exact State.enterAcquire_shelfMove h _ s
  · split
    · exact ShelfMove.refl s
    · exact State.enterAcquire_shelfMove h _ s
  · exact State.leaveLocked_shelfMove h s
  · exact ShelfMove.refl s

/-- The visit of a shelf is a move of shelves (R110, R111). -/
theorem State.visit_shelfMove (h : ShelfNo) (s : State) : ShelfMove s (s.visit h) := by
  unfold State.visit
  split
  · split
    · exact State.mapCard_shelfMove h _ s
    · refine ShelfMove.trans (ShelfMove.trans ?_ (State.mapCard_shelfMove h _ _)) (State.applyChoice_shelfMove h _ _)
      unfold State.dropIneligible
      split
      · split
        · exact ShelfMove.refl s
        · exact State.dropRequest_shelfMove h s
      · exact ShelfMove.refl s
  · exact ShelfMove.refl s

/-- A fold of moves of shelves is one. -/
theorem ShelfMove.foldl {α : Type} (f : State → α → State) (hf : ∀ s a, ShelfMove s (f s a)) (l : List α) (s : State) :
    ShelfMove s (l.foldl f s) := by
  induction l generalizing s with
  | nil => exact ShelfMove.refl s
  | cons a rest ih => exact (hf s a).trans (ih (f s a))

theorem State.postGrade_shelfMove (g : Nat) (r : RefNo) (s : State) : ShelfMove s (s.postGrade g r) :=
  (State.post_shelfMove _ s).trans (State.leavePassPending_shelfMove _)

/-- Handing on the changes of grade moves nothing but the pending flag and the Report Queue (R69). -/
theorem State.handOnGrades_shelfMove (before s : State) : ShelfMove s (before.handOnGrades s) :=
  ShelfMove.foldl _ (fun t r => State.postGrade_shelfMove _ r t) _ s

theorem State.handOnGrades_shelf (before s : State) (h : ShelfNo) : (before.handOnGrades s).shelf h = s.shelf h := by
  unfold State.handOnGrades
  generalize before.regraded s = l
  have key : ∀ (l : List RefNo) (t : State),
      (l.foldl (fun t r => t.postGrade (s.effectiveGrade r) r) t).shelf h = t.shelf h := by
    intro l
    induction l with
    | nil => intro t; rfl
    | cons r rest ih => intro t; simp only [List.foldl_cons]; rw [ih]; simp [State.postGrade]
  exact key l s

/-! ## Moving a reference -/

/-- What a change of availability of ref r leaves as it was: all that a move of a shelf leaves, but for the record of
r, whose configuration, codes and grade inputs stay too. -/
structure RefMove (r : RefNo) (s t : State) : Prop where
  time : t.time = s.time
  monitor : t.monitor = s.monitor
  planA : t.refs.planA = s.refs.planA
  planB : t.refs.planB = s.refs.planB
  persistence : t.refs.persistence = s.refs.persistence
  qh : t.qh = s.qh
  dh : t.dh = s.dh
  port : t.port = s.port
  resetHeld : t.resetHeld = s.resetHeld
  pending : t.pending = s.pending
  depthLimit : t.engine.depthLimit = s.engine.depthLimit
  silenceLimit : t.engine.silenceLimit = s.engine.silenceLimit
  pass : t.engine.pass = s.engine.pass
  passCount : t.engine.passCount = s.engine.passCount
  cfg : ∀ h : ShelfNo, (t.shelf h).cfg = (s.shelf h).cfg
  hold : ∀ h : ShelfNo, (t.shelf h).hold = (s.shelf h).hold
  silence : ∀ h : ShelfNo, (t.shelf h).silence = (s.shelf h).silence
  others : ∀ x : RefNo, x ≠ r → t.ref x = s.ref x
  refCfg : (t.ref r).cfg = (s.ref r).cfg
  adopted : (t.ref r).run.adopted = (s.ref r).run.adopted
  candidate : (t.ref r).run.candidate = (s.ref r).run.candidate
  candidateCount : (t.ref r).run.candidateCount = (s.ref r).run.candidateCount
  messageAge : (t.ref r).run.messageAge = (s.ref r).run.messageAge
  cardDefect : (t.ref r).run.cardDefect = (s.ref r).run.cardDefect
  override : (t.ref r).run.override = (s.ref r).run.override
  service : KeepsService s t

theorem RefMove.refl (r : RefNo) (s : State) : RefMove r s s :=
  ⟨rfl, rfl, rfl, rfl, rfl, rfl, rfl, rfl, rfl, rfl, rfl, rfl, rfl, rfl, fun _ => rfl, fun _ => rfl, fun _ => rfl,
    fun _ _ => rfl, rfl, rfl, rfl, rfl, rfl, rfl, rfl, rfl, rfl, rfl, rfl⟩

theorem RefMove.trans {r : RefNo} {s t u : State} (a : RefMove r s t) (b : RefMove r t u) : RefMove r s u where
  time := b.time.trans a.time
  monitor := b.monitor.trans a.monitor
  planA := b.planA.trans a.planA
  planB := b.planB.trans a.planB
  persistence := b.persistence.trans a.persistence
  qh := b.qh.trans a.qh
  dh := b.dh.trans a.dh
  port := b.port.trans a.port
  resetHeld := b.resetHeld.trans a.resetHeld
  pending := b.pending.trans a.pending
  depthLimit := b.depthLimit.trans a.depthLimit
  silenceLimit := b.silenceLimit.trans a.silenceLimit
  pass := b.pass.trans a.pass
  passCount := b.passCount.trans a.passCount
  cfg h := (b.cfg h).trans (a.cfg h)
  hold h := (b.hold h).trans (a.hold h)
  silence h := (b.silence h).trans (a.silence h)
  others x e := (b.others x e).trans (a.others x e)
  refCfg := b.refCfg.trans a.refCfg
  adopted := b.adopted.trans a.adopted
  candidate := b.candidate.trans a.candidate
  candidateCount := b.candidateCount.trans a.candidateCount
  messageAge := b.messageAge.trans a.messageAge
  cardDefect := b.cardDefect.trans a.cardDefect
  override := b.override.trans a.override
  service := ⟨b.service.1.trans a.service.1, b.service.2.1.trans a.service.2.1,
    b.service.2.2.1.trans a.service.2.2.1, b.service.2.2.2.trans a.service.2.2.2⟩

theorem ShelfMove.ref {s t : State} (a : ShelfMove s t) (r : RefNo) : t.ref r = s.ref r := by
  unfold State.ref; rw [a.refs]

/-- A move of a shelf is a change that leaves every reference. -/
theorem ShelfMove.refMove {s t : State} (a : ShelfMove s t) (r : RefNo) : RefMove r s t where
  time := a.time
  monitor := a.monitor
  planA := by rw [a.refs]
  planB := by rw [a.refs]
  persistence := by rw [a.refs]
  qh := a.qh
  dh := a.dh
  port := a.port
  resetHeld := a.resetHeld
  pending := a.pending
  depthLimit := a.depthLimit
  silenceLimit := a.silenceLimit
  pass := a.pass
  passCount := a.passCount
  cfg := a.cfg
  hold := a.hold
  silence := a.silence
  others x _ := a.ref x
  refCfg := by rw [a.ref]
  adopted := by rw [a.ref]
  candidate := by rw [a.ref]
  candidateCount := by rw [a.ref]
  messageAge := by rw [a.ref]
  cardDefect := by rw [a.ref]
  override := by rw [a.ref]
  service := a.service

/-- The availability of ref r, its timers and its first qualification flag written, and a pass left pending. -/
theorem State.setAvailability_refMove (r : RefNo) (a : Availability) (f : Option Nat) (o : Option SecondTimer)
    (s : State) : RefMove r s (s.setAvailability r a f o) where
  time := rfl
  monitor := rfl
  planA := rfl
  planB := rfl
  persistence := rfl
  qh := rfl
  dh := rfl
  port := rfl
  resetHeld := rfl
  pending := rfl
  depthLimit := rfl
  silenceLimit := rfl
  pass := rfl
  passCount := rfl
  cfg _ := rfl
  hold _ := rfl
  silence _ := rfl
  others x e := by
    simp [State.setAvailability, State.setRun, State.ref_setRef, Ne.symm e]
  refCfg := by simp [State.setAvailability, State.setRun]
  adopted := by simp [State.setAvailability, State.setRun]
  candidate := by simp [State.setAvailability, State.setRun]
  candidateCount := by simp [State.setAvailability, State.setRun]
  messageAge := by simp [State.setAvailability, State.setRun]
  cardDefect := by simp [State.setAvailability, State.setRun]
  override := by simp [State.setAvailability, State.setRun]
  service := ⟨rfl, rfl, rfl, rfl⟩

theorem State.becomeAvailable_refMove (r : RefNo) (d : AvailableDetail) (s : State) :
    RefMove r s (s.becomeAvailable r d) :=
  (State.setAvailability_refMove r _ _ _ s).trans ((State.post_shelfMove _ _).refMove r)

/-- Entering FAILED: the record of r, the shelves that follow it and their reports (R105). -/
theorem State.enterFailed_refMove (r : RefNo) (d : FailDetail) (s : State) : RefMove r s (s.enterFailed r d) :=
  ((State.setAvailability_refMove r _ _ _ s).trans ((State.post_shelfMove _ _).refMove r)).trans
    ((ShelfMove.foldl _ (fun t h => State.takeOff_shelfMove h r t) _ _).refMove r)

theorem State.defectBegins_refMove (r : RefNo) (s : State) : RefMove r s (s.defectBegins r) := by
  unfold State.defectBegins
  split
  · split
    · exact State.enterFailed_refMove r _ s
    · exact (State.setAvailability_refMove r _ _ _ s).trans ((State.post_shelfMove _ _).refMove r)
  · exact State.enterFailed_refMove r _ s
  · exact RefMove.refl r s
  · exact RefMove.refl r s

/-- The first qualification flag of ref r cleared. -/
theorem State.clearFirst_refMove (r : RefNo) (s : State) :
    RefMove r s (s.setRun r fun x => { x with firstQualification := false }) where
  time := rfl
  monitor := rfl
  planA := rfl
  planB := rfl
  persistence := rfl
  qh := rfl
  dh := rfl
  port := rfl
  resetHeld := rfl
  pending := rfl
  depthLimit := rfl
  silenceLimit := rfl
  pass := rfl
  passCount := rfl
  cfg _ := rfl
  hold _ := rfl
  silence _ := rfl
  others x e := by simp [State.setRun, State.ref_setRef, Ne.symm e]
  refCfg := by simp [State.setRun]
  adopted := by simp [State.setRun]
  candidate := by simp [State.setRun]
  candidateCount := by simp [State.setRun]
  messageAge := by simp [State.setRun]
  cardDefect := by simp [State.setRun]
  override := by simp [State.setRun]
  service := ⟨rfl, rfl, rfl, rfl⟩

theorem State.defectEnds_refMove (r : RefNo) (s : State) : RefMove r s (s.defectEnds r) := by
  unfold State.defectEnds
  split
  · exact State.becomeAvailable_refMove r _ s
  · split
    · exact (State.clearFirst_refMove r s).trans (State.becomeAvailable_refMove r _ _)
    · split
      · exact State.becomeAvailable_refMove r _ s
      · exact (State.setAvailability_refMove r _ _ _ s).trans ((State.post_shelfMove _ _).refMove r)
  · exact RefMove.refl r s
  · exact RefMove.refl r s

/-- Taking a change of a defect input (R13 to R16). -/
theorem State.takeDefect_refMove (before : State) (r : RefNo) (s : State) : RefMove r s (before.takeDefect r s) := by
  unfold State.takeDefect
  split
  · exact RefMove.refl r s
  · split
    · exact State.defectBegins_refMove r s
    · exact State.defectEnds_refMove r s
    · exact RefMove.refl r s

/-! ## Requests -/

/-- A request of a named type is taken: its owning block answers, and the reply is being sent (R160). -/
theorem takeRequest_of_asks (named : Nat → Bool) (serve : List Byte → State → Answer) (s : State) (n : Nat) (f : Frame)
    (h : s.asks n f) (k : named n = true) :
    takeRequest named serve s = .next (State.sendReply f (serve f.body s)) := by
  obtain ⟨held, idle, front, type⟩ := h
  simp [takeRequest, event, State.waiting, held, idle, front, type, k]

/-- Without a frame that can be taken nothing changes (log 2). -/
theorem takeRequest_of_none (named : Nat → Bool) (serve : List Byte → State → Answer) (s : State)
    (h : s.waiting = none) : takeRequest named serve s = .next s := by
  unfold takeRequest event
  split
  · rfl
  · simp [h]

/-- Taking a request answers the state it found, or the answer of the owning block to the oldest frame. -/
theorem takeRequest_cases (named : Nat → Bool) (serve : List Byte → State → Answer) (s : State) :
    takeRequest named serve s = .next s
      ∨ ∃ f, s.waiting = some f ∧ named f.type.toNat = true
          ∧ takeRequest named serve s = .next (State.sendReply f (serve f.body s)) := by
  by_cases held : s.resetHeld = true
  · exact Or.inl (event_of_held s _ held)
  · have run : s.resetHeld = false := by simpa using held
    rw [takeRequest, event_of_running s _ run]
    rcases w : s.waiting with _ | f
    · exact Or.inl rfl
    · by_cases k : named f.type.toNat = true
      · exact Or.inr ⟨f, rfl, k, by simp [k]⟩
      · exact Or.inl (by simp [k])

theorem State.sendReply_accept (f : Frame) (s : State) (c : Bool) (rs : List Byte) :
    State.sendReply f (accept s c rs) = s.replying f .ok c rs := rfl

theorem State.sendReply_refuse (f : Frame) (s : State) (st : Status) (rs : List Byte) :
    State.sendReply f (refuse s st rs) = s.replying f st false rs := rfl

end Sys2Proof.Machine
end

