-- ==== Sys2Proof/Laws/PerInstr.lean ====
section
/-!
SUPPORT. The family Operands of statements, one lemma for each command: a command is well formed exactly when each
number it carries lies in the range of its table (00_scope.md section 4.1).
-/

namespace Sys2Proof.Laws.Operands

open Sys2Proof

set_option Elab.async false

/-- The numbers a command carries, each with the first number of its range and the first number past it. -/
def numbers : Instr → List (Nat × Nat × Nat)
  | .edge r | .signalLost r | .failTimerExpiry r | .restoreTimerExpiry r | .messageAgeExpiry r => [(r, 0, 40)]
  | .cardSilenceExpiry h | .acquireExpiry h | .holdoverAging h => [(h, 0, 32)]
  | .refusalMarkRunOut h r => [(h, 0, 32), (r, 0, 40)]
  | .wordReceived slot _ => [(slot, 0, 48)]
  | .commandBlockStart slot => [(slot, 0, 32)]
  | .qualityBlockStart slot => [(slot, 32, 48)]
  | _ => []

/-- Well-formedness is that every number lies in its range. -/
def Statement (i : Instr) : Prop := i.wellFormed = true ↔ ∀ x ∈ numbers i, x.2.1 ≤ x.1 ∧ x.1 < x.2.2

theorem configureReference : Statement .configureReference := by simp [Statement, Instr.wellFormed, numbers]
theorem readReference : Statement .readReference := by simp [Statement, Instr.wellFormed, numbers]
theorem clearRestore : Statement .clearRestore := by simp [Statement, Instr.wellFormed, numbers]
theorem setOscillatorTrim : Statement .setOscillatorTrim := by simp [Statement, Instr.wellFormed, numbers]
theorem loadCodePlan : Statement .loadCodePlan := by simp [Statement, Instr.wellFormed, numbers]
theorem readCodePlan : Statement .readCodePlan := by simp [Statement, Instr.wellFormed, numbers]
theorem setGradeOverride : Statement .setGradeOverride := by simp [Statement, Instr.wellFormed, numbers]
theorem configureShelf : Statement .configureShelf := by simp [Statement, Instr.wellFormed, numbers]
theorem readShelf : Statement .readShelf := by simp [Statement, Instr.wellFormed, numbers]
theorem setSelectionLimits : Statement .setSelectionLimits := by simp [Statement, Instr.wellFormed, numbers]
theorem switch : Statement .switch := by simp [Statement, Instr.wellFormed, numbers]
theorem lockout : Statement .lockout := by simp [Statement, Instr.wellFormed, numbers]
theorem hold : Statement .hold := by simp [Statement, Instr.wellFormed, numbers]
theorem setHighway : Statement .setHighway := by simp [Statement, Instr.wellFormed, numbers]
theorem readHighway : Statement .readHighway := by simp [Statement, Instr.wellFormed, numbers]
theorem injectBlock : Statement .injectBlock := by simp [Statement, Instr.wellFormed, numbers]
theorem setReporting : Statement .setReporting := by simp [Statement, Instr.wellFormed, numbers]
theorem collect : Statement .collect := by simp [Statement, Instr.wellFormed, numbers]
theorem endService : Statement .endService := by simp [Statement, Instr.wellFormed, numbers]
theorem setMode : Statement .setMode := by simp [Statement, Instr.wellFormed, numbers]
theorem readStatus : Statement .readStatus := by simp [Statement, Instr.wellFormed, numbers]
theorem reset : Statement .reset := by simp [Statement, Instr.wellFormed, numbers]
theorem unknownRequestType : Statement .unknownRequestType := by simp [Statement, Instr.wellFormed, numbers]
theorem replyEnd : Statement .replyEnd := by simp [Statement, Instr.wellFormed, numbers]
theorem resetPin : Statement .resetPin := by simp [Statement, Instr.wellFormed, numbers]
theorem byteReceived (value : Byte) (stopHigh : Bool) : Statement (.byteReceived value stopHigh) := by simp [Statement, Instr.wellFormed, numbers]
theorem byteWatchExpiry : Statement .byteWatchExpiry := by simp [Statement, Instr.wellFormed, numbers]
theorem tickEvent : Statement .tickEvent := by simp [Statement, Instr.wellFormed, numbers]
theorem secondEvent : Statement .secondEvent := by simp [Statement, Instr.wellFormed, numbers]
theorem edge (r : Nat) : Statement (.edge r) := by simp [Statement, Instr.wellFormed, numbers]
theorem signalLost (r : Nat) : Statement (.signalLost r) := by simp [Statement, Instr.wellFormed, numbers]
theorem failTimerExpiry (r : Nat) : Statement (.failTimerExpiry r) := by simp [Statement, Instr.wellFormed, numbers]
theorem restoreTimerExpiry (r : Nat) : Statement (.restoreTimerExpiry r) := by simp [Statement, Instr.wellFormed, numbers]
theorem qhFrameStart (pulse : Bool) : Statement (.qhFrameStart pulse) := by simp [Statement, Instr.wellFormed, numbers]
theorem frameWatchRunOut : Statement .frameWatchRunOut := by simp [Statement, Instr.wellFormed, numbers]
theorem qhSync : Statement .qhSync := by simp [Statement, Instr.wellFormed, numbers]
theorem qhRecovered : Statement .qhRecovered := by simp [Statement, Instr.wellFormed, numbers]
theorem wordReceived (slot : Nat) (bits : Byte) : Statement (.wordReceived slot bits) := by simp [Statement, Instr.wellFormed, numbers]
theorem messageAgeExpiry (r : Nat) : Statement (.messageAgeExpiry r) := by simp [Statement, Instr.wellFormed, numbers]
theorem cardSilenceExpiry (h : Nat) : Statement (.cardSilenceExpiry h) := by simp [Statement, Instr.wellFormed, numbers]
theorem acquireExpiry (h : Nat) : Statement (.acquireExpiry h) := by simp [Statement, Instr.wellFormed, numbers]
theorem holdoverAging (h : Nat) : Statement (.holdoverAging h) := by simp [Statement, Instr.wellFormed, numbers]
theorem refusalMarkRunOut (h r : Nat) : Statement (.refusalMarkRunOut h r) := by simp [Statement, Instr.wellFormed, numbers]
theorem passStart : Statement .passStart := by simp [Statement, Instr.wellFormed, numbers]
theorem passVisit : Statement .passVisit := by simp [Statement, Instr.wellFormed, numbers]
theorem passEnd : Statement .passEnd := by simp [Statement, Instr.wellFormed, numbers]
theorem dhFrameStart : Statement .dhFrameStart := by simp [Statement, Instr.wellFormed, numbers]
theorem commandBlockStart (slot : Nat) : Statement (.commandBlockStart slot) := by simp [Statement, Instr.wellFormed, numbers]
theorem qualityBlockStart (slot : Nat) : Statement (.qualityBlockStart slot) := by simp [Statement, Instr.wellFormed, numbers]
theorem resetPinAsserted : Statement .resetPinAsserted := by simp [Statement, Instr.wellFormed, numbers]

end Sys2Proof.Laws.Operands
end

