-- ==== Sys2Proof/Tests/Slice0.lean ====
section
/-!
SUPPORT. The model's own tests: ill-formed commands, single steps on the manual's own numbers, and for every
obligation with hypotheses concrete states and operands that meet them, clause by clause.
-/

namespace Sys2Proof.Tests

open Sys2Proof Sys2Proof.Machine

set_option Elab.async false

/-! ## Commands that name nothing the part has -/

theorem test_illformed_references :
    Instr.wellFormed (.edge 40) = false ∧ Instr.wellFormed (.signalLost 40) = false
      ∧ Instr.wellFormed (.failTimerExpiry 40) = false ∧ Instr.wellFormed (.restoreTimerExpiry 40) = false
      ∧ Instr.wellFormed (.messageAgeExpiry 40) = false ∧ Instr.wellFormed (.refusalMarkRunOut 31 40) = false := by
  decide

theorem test_illformed_shelves :
    Instr.wellFormed (.cardSilenceExpiry 32) = false ∧ Instr.wellFormed (.acquireExpiry 32) = false
      ∧ Instr.wellFormed (.holdoverAging 32) = false ∧ Instr.wellFormed (.refusalMarkRunOut 32 39) = false := by
  decide

theorem test_illformed_slots :
    Instr.wellFormed (.wordReceived 48 0) = false ∧ Instr.wellFormed (.commandBlockStart 32) = false
      ∧ Instr.wellFormed (.qualityBlockStart 31) = false ∧ Instr.wellFormed (.qualityBlockStart 48) = false := by
  decide

theorem test_wellformed_at_the_limits :
    Instr.wellFormed (.edge 39) = true ∧ Instr.wellFormed (.cardSilenceExpiry 31) = true
      ∧ Instr.wellFormed (.refusalMarkRunOut 31 39) = true ∧ Instr.wellFormed (.wordReceived 47 0xff) = true
      ∧ Instr.wellFormed (.commandBlockStart 31) = true ∧ Instr.wellFormed (.qualityBlockStart 32) = true
      ∧ Instr.wellFormed (.qualityBlockStart 47) = true := by
  decide

/-! ## Small states -/

/-- The one frame held, with tag 7. -/
def frame (type : Nat) (body : List Byte) : Frame := ⟨BitVec.ofNat 8 type, 7, body⟩

/-- A state whose oldest frame is of a type. -/
def asking (s : State) (type : Nat) (body : List Byte) : State :=
  { s with port := { s.port with buffer := [frame type body] } }

/-- A state in MAINTENANCE. -/
def maintained (s : State) : State := { s with port := { s.port with mode := .maintenance } }

/-- A state at an office time. -/
def atTime (now : Nat) (s : State) : State := { s with time := { s.time with officeTime := now } }

/-- A LINE reference homed on shelf 31 with slot 47 and grade source MESSAGE. -/
def lineCfg : RefConfig :=
  { RefConfig.initial with
    kind := .line
    homeShelf := some 31
    slot := some 47
    gradeSource := .message }

/-- A FEED of shelf 31. -/
def feedCfg : RefConfig :=
  { RefConfig.initial with
    kind := .feed
    homeShelf := some 31
    gradeSource := .traced }

/-- A state in which ref r has a configuration and a running part. -/
def withRef (r : RefNo) (cfg : RefConfig) (run : RefRunning) (s : State) : State := s.setRef r ⟨cfg, run⟩

/-- A running part in AVAILABLE, past its first qualification. -/
def usable : RefRunning := { RefRunning.initial with availability := .available, firstQualification := false }

/-- A channel in range. -/
def goodChannel : Channel :=
  ⟨true, false, false, 0, false, some ⟨31999, 79999880⟩, some 0, false, some 0, .inRange⟩

/-- A shelf that is enabled, released, and JOINED in a timing state. -/
def joinedIn (t : Timing) (request : SwitchRequest) (entries : List Candidate) : Shelf :=
  { Shelf.initial with
    cfg := { ShelfConfig.initial with enabled := true, reportSlot := some 47 }
    candidates := entries
    admission := .joined ⟨.a, t, request, none⟩
    hold := false }

/-- A state in which shelf h is a record. -/
def withShelf (h : ShelfNo) (x : Shelf) (s : State) : State := s.setShelf h x

/-- Ref 39 is LINE, AVAILABLE, with a good channel; ref 38 is a FEED of shelf 31. -/
def office : State :=
  ((withRef 39 lineCfg usable (withRef 38 feedCfg usable State.reset)).setChan 39 goodChannel).setChan 38 goodChannel

/-- Shelf 31 LOCKED on ref 39, with entries for refs 39 and 38. -/
def lockedOffice : State :=
  withShelf 31 (joinedIn (.locked 39 0) .none [⟨39, false, 0, false⟩, ⟨38, false, 0, false⟩]) office

/-- The highway ALIGNED before the word of slot 47, whose assembler is in COLLECT. -/
def aligned (length : Nat) (words : List WordValue) (s : State) : State :=
  { s with qh := { s.qh with
      framing := some ⟨376, 3749, false⟩
      assemblers := s.qh.assemblers.set 47 (.collect length words) } }

/-- What a step answers, where it answers a next state. -/
def after (r : Result) : Option State :=
  match r with
  | .next s => some s
  | _ => none

/-! ## Single steps on the manual's numbers -/

/-- The status block for ref 7 with code 4 is 87h, 78h, 04h, 03h (11_record_and_block_formats.md). -/
theorem test_status_block_words : outgoingBlock [7, 127 - 7, 4] = [0x87, 0x78, 0x04, 0x03] := by decide

/-- The command block TRACK 7 for shelf 3 is C3h, 3Ch, 03h, 07h, 60h (11_record_and_block_formats.md). -/
theorem test_command_block_words :
    (withShelf 3 (joinedIn (.locked 7 0) .none []) State.reset).commandBlock 3 = [0xC3, 0x3C, 0x03, 0x07, 0x60] := by
  decide

/-- A READ STATUS frame with tag 7 is A5h 02h 15h 07h 1Eh 37h (10_the_message_port.md). -/
theorem test_read_status_frame_is_buffered :
    ((List.foldlM (fun s b => after (execByteReceived b true s)) State.reset
      [0xA5, 0x02, 0x15, 0x07, 0x1E, 0x37]).map fun s => s.port.buffer) = some [⟨0x15, 7, []⟩] := by decide

/-- The reply to READ STATUS right after reset: NORMAL, time 0, one record, CLOSED, LOST. -/
theorem test_read_status_reply :
    (after (execReadStatus (asking State.reset 21 []))).bind (fun s => s.port.transmit.map (·.bytes.take 14))
      = some [0xA5, 12, 0x95, 7, 0, 0, 0, 0, 0, 0, 0, 1, 0, 0] := by decide

/-- The raw and adjusted offsets of the worked gate examples (02_frequency_measurement.md, sections 2.11, 2.12). -/
theorem test_raw_offsets :
    rawOffset 4 79999634 = 18300 ∧ rawOffset 1 19997000 = 600000 ∧ rawOffset 8 159984040 = 399000
      ∧ clampOffset 600000 = 400000 := by decide

/-- The filter of the worked example: 400,000 to 299,500 to 224,125 (section 2.12). -/
theorem test_filter_steps :
    400000 + filterStep (-2000 - 400000) 2 = 299500 ∧ 299500 + filterStep (-2000 - 299500) 2 = 224125
      ∧ filterStep 3 1 = 2 ∧ filterStep (-1) 1 = -1 ∧ filterStep 5 1 = 3 := by decide

/-- The pull limit of the worked example: 18,500 leaves range, 17,000 does not return, 16,400 does (section 2.11). -/
theorem test_qualification :
    qualify .unmeasured false 18300 18400 2000 = .inRange ∧ qualify .inRange false 18500 18400 2000 = .outOfRange
      ∧ qualify .outOfRange false 17000 18400 2000 = .outOfRange
      ∧ qualify .outOfRange false 16400 18400 2000 = .inRange := by decide

/-- A gate's ending edge: 120 ticks below the expected count is an offset of 6,000, a quarter of which enters F. -/
theorem test_gate_completes :
    (after (execEdge 39 office)).map (fun s => ((s.chan 39).lastRaw, (s.chan 39).filtered, (s.chan 39).gate))
      = some (some 6000, some 1500, some ⟨0, 0⟩) := by decide

/-- Three blocks adopt a code with a persistence count of 3 (R64). -/
theorem test_persistence :
    ((usable.persist 3 4).persist 3 4).adopted = none
      ∧ (((usable.persist 3 4).persist 3 4).persist 3 4).adopted = some 4
      ∧ ((((usable.persist 3 4).persist 3 4).persist 3 4).persist 3 4).candidateCount = 0 := by decide

/-- A record's 12 bytes: LATE_LOCK, shelf 3, detail 7, times 504 and 505, count 2 (11_record_and_block_formats.md). -/
theorem test_record_bytes :
    Record.put ⟨.lateLock 3 7, 504, 505, 2⟩ = [0x12, 3, 7, 0, 0, 1, 0xF8, 0, 0, 1, 0xF9, 2] := by decide

/-- The idle steps after reset: the first frame starts at the first tick (R134). -/
theorem test_first_frame_is_due : State.reset.timeEventDue = false ∧ State.reset.idle.dhFrameDue = true := by decide

/-- A step takes the command in front; the front command here starts the pass that is pending. -/
theorem test_step_takes_the_front :
    (after (step { State.reset.leavePassPending with pending := [.passStart, .tickEvent] })).map
      (fun s => (s.engine.passCount, s.pending)) = some (1, [.tickEvent]) := by decide

/-- Loss of the signal of a LOCKED shelf's reference starts its fail timer and leaves the shelf (R15, R28). -/
theorem test_signal_lost :
    (after (execSignalLost 39 (lockedOffice.setChan 39 { goodChannel with
      edgeWatch := 10000
      sampleClosed := true }))).map
      (fun s => ((s.ref 39).run.availability, (s.ref 39).run.failTimer, (s.shelf 31).selected))
      = some (.failing, some 25, some 39) := by decide

set_option maxRecDepth 4000 in
/-- The fail timer takes the shelf off its reference: locked for less than its qualify time, it falls to FREE_RUN. -/
theorem test_fail_timer :
    (after (execFailTimerExpiry 39 (lockedOffice.setRef 39
      ⟨lineCfg, { usable with availability := .failing, failTimer := some 0 }⟩))).map
      (fun s => ((s.ref 39).run.availability, (s.shelf 31).timing, s.queue.records.map (·.report)))
      = some (.failed, some .freeRun,
        [.start .pin, .refFailed 39 .timer, .shelfState 31 .freeRun, .refGrade 38 12]) := by decide

/-- A card joins: ANNOUNCE of class C on an enabled shelf (R78). -/
theorem test_card_joins :
    (after (execWordReceived 47 0x2E (aligned 5 [95, 32, 1, 3]
      (withShelf 31 { joinedIn .freeRun .none [] with admission := .vacant } State.reset)))).map
      (fun s => ((s.shelf 31).timing, s.queue.records.map (·.report)))
      = some (some Timing.freeRun, [Report.start .pin, .cardJoined 31 .c, .shelfState 31 .freeRun]) := by decide

/-- A pass visit of a shelf in FREE_RUN with an eligible candidate enters ACQUIRE toward it (R104). -/
theorem test_visit_acquires :
    (after (execPassVisit { (withShelf 31 (joinedIn .freeRun .none [⟨39, false, 0, false⟩])
        (withRef 39 { lineCfg with staleGrade := 4 } usable office)) with
      engine := { (withShelf 31 (joinedIn .freeRun .none [⟨39, false, 0, false⟩])
        (withRef 39 { lineCfg with staleGrade := 4 } usable office)).engine with pass := some ⟨[31], 0⟩ } })).map
      (fun s => (s.shelf 31).timing) = some (some (.acquire 39 .freeRun ⟨10, false⟩)) := by decide

/-! ## Witnesses: steps and reset -/

theorem test_witness_EmptyQueue :
    (State.reset.pending = [] ∧ State.reset.resetHeld = false ∧ State.reset.timeEventDue = false)
      ∧ (State.reset.idle.pending = [] ∧ State.reset.idle.timeEventDue = true
        ∧ State.reset.idle.watchesFull = false)
      ∧ (office.setChan 39 { goodChannel with edgeWatch := 10000 }).watchesFull = true
      ∧ State.reset.holdInReset.pending = [] ∧ State.reset.holdInReset.resetHeld = true := by decide

/-- A reply whose last byte is out, of a RESET or of another request. -/
def sent (reset : Bool) : State :=
  { State.reset with port := { State.reset.port with buffer := [frame 21 []], transmit := some ⟨[], 0, reset⟩ } }

/-- The bytes of a reply still to go: the first of two is out after 868 ticks and a part of the next. -/
theorem test_reply_bytes_go_out :
    (Sending.afterTick ⟨[1, 2], 15606, false⟩ = ⟨[1, 2], 15624, false⟩)
      ∧ Sending.afterTick ⟨[1, 2], 15624, false⟩ = ⟨[2], 17, false⟩ ∧ 18 * 868 = 15624
      ∧ (after (execReplyEnd (sent false))).map (fun s => s.port.buffer) = some []
      ∧ (after (execReplyEnd (sent true))).map (fun s => s.queue.records.map (·.report)) = some [.start .request] := by
  decide

/-- The line at the middle of each bit time of the delimiter A5h: a start bit, 1, 0, 1, 0, 0, 1, 0, 1, a stop bit (R155). -/
theorem test_bits_of_a_sent_byte :
    ((List.range 10).map fun i =>
        ({ State.reset.port with transmit := some ⟨[0xA5], 1562 * i + 781, false⟩ } : Port).transmitLine)
      = [false, true, false, true, false, false, true, false, true, true]
      ∧ ({ State.reset.port with transmit := some ⟨[0x80], 14062, false⟩ } : Port).transmitLine = true
      ∧ (15625 * 8 ≤ 10 * 14062 ∧ 10 * 14062 < 15625 * 9 ∧ 15625 * 9 ≤ 10 * 15624)
      ∧ (sent false).port.transmitLine = true ∧ State.reset.port.transmit = none := by decide

theorem test_witness_ResetsAndTheEndOfAReply :
    (State.reset.resetHeld = false ∧ State.reset.port.transmit = none)
      ∧ ((State.reset.replying (frame 21 []) .ok false []).port.transmit.map (·.bytes.isEmpty)) = some false
      ∧ ((sent false).port.transmit = some ⟨[], 0, false⟩ ∧ (sent true).port.transmit = some ⟨[], 0, true⟩)
      ∧ ((State.reset.replying (frame 22 []) .ok false []).port.transmit.map (·.resetAtEnd)) = some true
      ∧ (State.reset.holdInReset.resetHeld = true ∧ Instr.wellFormed (.edge 39) = true
        ∧ Instr.edge 39 ≠ .resetPin ∧ Instr.edge 39 ≠ .resetPinAsserted) := by decide

theorem test_witness_TickAndSecondEvents :
    ({ State.reset with time := ⟨2000000, 9, false, 0⟩ }.resetHeld = false ∧ 2000000 ≤ (2000000 : Nat))
      ∧ State.reset.time.subTicks < 2000000 ∧ State.reset.time.secondDue = false
      ∧ (after (execTickEvent { State.reset with time := ⟨2000000, 9, false, 0⟩ })).map (·.time.secondDue) = some true
      ∧ (after (execSecondEvent { State.reset with time := ⟨0, 10, true, 4294967295⟩ })).map (·.time.officeTime)
        = some 4294967295 := by decide

theorem test_witness_RefusedAndWellFormed :
    Instr.wellFormed (.qualityBlockStart 47) = true
      ∧ ∃ t r, exec .readReference (asking State.reset 2 [40]) = .next t ∧ t.port.transmit = some r
        ∧ r.status ≠ some 0 := by
  refine ⟨by decide, _, _, rfl, rfl, by decide⟩

/-! ## Witnesses: the Frequency Monitor -/

theorem test_witness_SignalsReturnAndAreLost :
    ((State.reset.chan 39).pinHigh = false ∧ (State.reset.chan 39).present = false
        ∧ (State.reset.chan 39).freq = .unmeasured)
      ∧ ((office.setChan 39 { goodChannel with pinHigh := true }).chan 39).pinHigh = true
      ∧ ((office.setChan 39 { goodChannel with pinNow := true }).chan 39).pinNow = true
      ∧ ((office.setChan 39 { goodChannel with edgeWatch := 10000, sampleClosed := true }).chan 39).sampleClosed = true
      ∧ (((office.setChan 39 { goodChannel with gate := some ⟨31998, 0⟩ }).chan 39).present = true
        ∧ 31998 + 1 < 8000 * (office.ref 39).cfg.gateLength)
      ∧ ((office.setChan 39 { goodChannel with edgeWatch := 10000 }).chan 39).sampleClosed = false := by decide

/-- At the tick at which the edge watch reaches 10,000 an edge is taken whatever stands before it in the queue. Once that
tick is sampled with none the signal is lost, and an edge is taken again at the next tick (R28, R29). -/
theorem test_edge_at_the_watch_limit :
    (after (execSignalLost 39 (office.setChan 39 { goodChannel with edgeWatch := 10000 }))).map
        (fun s => ((s.chan 39).present,
          (after (execEdge 39 s)).map fun t => ((t.chan 39).present, (t.chan 39).edgeWatch)))
        = some (true, some (true, 0))
      ∧ ((office.setChan 39 { goodChannel with edgeWatch := 10000 }).idle.chan 39).sampleClosed = true
      ∧ ((after (execEdge 39 (office.setChan 39 { goodChannel with edgeWatch := 10000 }).idle)).bind fun s =>
          after (execSignalLost 39 s)).map (fun s => ((s.chan 39).present,
            (after (execEdge 39 s)).map fun t => (t.chan 39).present,
            (after (execEdge 39 s.afterTick)).map fun t => (t.chan 39).present))
        = some (false, some false, some true) := by decide

/-- A pin sampled high at two ticks in a row gives one edge, and the next takes a low sample between (R25, R27). -/
theorem test_edges_need_a_low_sample :
    ((([1, 0, 1].foldl (fun c b => ({ c with pinNow := b == 1 } : Channel).afterTick) goodChannel).pinHigh,
        ([1, 0].foldl (fun c b => ({ c with pinNow := b == 1 } : Channel).afterTick) goodChannel).pinHigh)
      = (true, false)) ∧ goodChannel.restart.pinHigh = false
      ∧ ({ goodChannel with pinHigh := true, pinNow := true } : Channel).restart.pinHigh = true
      ∧ (after (execEdge 39 (office.setChan 39 { goodChannel with pinHigh := true }))).map
        (fun s => ((s.chan 39).gate, (s.chan 39).pinNow)) = some (some ⟨31999, 79999880⟩, true) := by decide

theorem test_witness_EndingEdge :
    office.resetHeld = false ∧ (office.chan 39).pinNow = false ∧ (office.chan 39).pinHigh = false
      ∧ (office.chan 39).present = true ∧ (office.chan 39).sampleClosed = false
      ∧ (office.chan 39).gate = some ⟨31999, 79999880⟩ ∧ 8000 * (office.ref 39).cfg.gateLength ≤ 31999 + 1 := by decide

/-- One channel for each line of R37's table: saturated, out, in, back in range, and still out of range. -/
theorem test_witness_GateQualification :
    ([(goodChannel, 79990000), (goodChannel, 79998000), (goodChannel, 79999880),
        ({ goodChannel with freq := .outOfRange, filtered := some 18000 }, 79999880),
        ({ goodChannel with freq := .outOfRange, filtered := some 40000 }, 79999880)].map
      fun p => ((p.1 : Channel).complete lineCfg 0 p.2).saturated) = [true, false, false, false, false]
      ∧ ([(goodChannel, 79990000), (goodChannel, 79998000), (goodChannel, 79999880),
        ({ goodChannel with freq := .outOfRange, filtered := some 18000 }, 79999880),
        ({ goodChannel with freq := .outOfRange, filtered := some 40000 }, 79999880)].map
      fun p => ((p.1 : Channel).complete lineCfg 0 p.2).freq)
        = [.outOfRange, .outOfRange, .inRange, .inRange, .outOfRange] := by decide

theorem test_witness_FilterSteps :
    goodChannel.freq ≠ .unmeasured ∧ goodChannel.filtered = some 0
      ∧ (goodChannel.complete lineCfg 0 79999880).saturated = false
      ∧ (6000 : Int) = max (-400000) (min 400000 (rawOffset lineCfg.gateLength 79999880)) + 0
      ∧ 2 * (1 : Int).natAbs < 2 ^ 2 := by decide

/-! ## Witnesses: the Reference Unit -/

/-- A reference in an availability with its timer. -/
def refIn (a : Availability) (fail : Option Nat) (restore age : Option SecondTimer) : State :=
  office.setRef 39 ⟨lineCfg, { usable with
    availability := a
    failTimer := fail
    restoreTimer := restore
    messageAge := age }⟩

theorem test_witness_Timers :
    (((refIn .failing (some 0) none none).ref 39).run.failTimer = some 0
        ∧ 0 ≤ (refIn .failing (some 0) none none).time.tickCount)
      ∧ (refIn .failing (some 1) none none).time.tickCount < 1
      ∧ ((refIn .restoring none (some ⟨0, true⟩) none).ref 39).run.restoreTimer = some ⟨0, true⟩
      ∧ ((refIn .restoring none (some ⟨1, false⟩) none).ref 39).run.restoreTimer = some ⟨1, false⟩
      ∧ (asking (refIn .restoring none (some ⟨1, false⟩) none) 3 (put8 39)).asks 3 (frame 3 (put8 39))
      ∧ ((asking office 3 (put8 39)).ref 39).run.availability ≠ .restoring
      ∧ (asking office 3 (put8 40)).asks 3 (frame 3 (put8 40)) := by decide

theorem test_witness_MessageAge :
    ((refIn .available none none (some ⟨0, true⟩)).ref 39).run.messageAge = some ⟨0, true⟩
      ∧ ((refIn .available none none (some ⟨5, false⟩)).ref 39).run.messageAge = some ⟨5, false⟩
      ∧ (office.ref 39).run.messageAge = none := by decide

theorem test_witness_Persistence :
    ({ usable with adopted := some 15 }.adopted = some 15)
      ∧ ({ usable with candidate := some 15, candidateCount := 2 }.candidate = some 15 ∧ 3 ≤ 2 + 1)
      ∧ ({ usable with candidate := some 15, candidateCount := 1 }.candidate = some 15 ∧ 1 + 1 < 3)
      ∧ (usable.adopted ≠ some 15 ∧ usable.candidate ≠ some 15) := by decide

/-- Shelves in each timing state, with the grades their rows give. -/
theorem test_witness_GradesAndRoots :
    lockedOffice.chainsSound ∧ (lockedOffice.shelf 31).timing = some (.locked 39 0) ∧ lockedOffice.tracedGrade 31 = 15
      ∧ lockedOffice.root 31 = some 39
      ∧ (withShelf 0 (joinedIn (.locked 38 0) .none []) lockedOffice).root 0 = some 39
      ∧ (withShelf 0 (joinedIn (.acquire 39 (.locked .holdover 7) ⟨9, false⟩) .none []) office).tracedGrade 0 = 7
      ∧ (withShelf 0 (joinedIn (.acquire 39 (.holdover ⟨0, true, false⟩) ⟨9, false⟩) .none [])
          office).tracedGrade 0 = 12
      ∧ (withShelf 0 (joinedIn (.acquire 39 .freeRun ⟨9, false⟩) .none []) office).tracedGrade 0 = 12
      ∧ (withShelf 0 (joinedIn (.holdover ⟨0, false, false⟩) .none []) office).tracedGrade 0 = 11
      ∧ (withShelf 0 (joinedIn .freeRun .none []) office).tracedGrade 0 = 12 ∧ (office.shelf 0).isJoined = false
      ∧ (office.ref 39).cfg.kind ≠ .feed ∧ (office.ref 38).cfg.homeShelf = some 31 := by decide

/-! ## Witnesses: the Quality Highway -/

/-- The highway ALIGNED at a position with a frame watch, a counted miss or none, and a number of missing pulses. -/
def framed (position watch : Nat) (counted : Bool) (missing : Nat) (mode : PulseMode) : State :=
  { State.reset with qh := { State.reset.qh with
      framing := some ⟨position, watch, counted⟩
      missing := missing
      pulseMode := mode } }

theorem test_witness_MissingPulses :
    State.reset.qh.framing = none ∧ (framed 384 0 true 6 .realign).qh.framing = some ⟨384, 0, true⟩
      ∧ ((framed 384 3750 false 6 .realign).qh.missing < 7 ∧ (framed 384 3750 false 6 .realign).frameWatchDue = true)
      ∧ (7 ≤ (framed 384 3750 false 7 .realign).qh.missing ∧ (framed 384 3750 false 7 .realign).frameWatchDue = true)
      ∧ (framed 384 3749 false 7 .realign).frameWatchDue = false
      ∧ (framed 383 0 false 0 .realign).qh.framing = some ⟨383, 0, false⟩
      ∧ (after (execQhFrameStart false (framed 384 0 false 7 .realign))).map (·.qh.framing) = some none
      ∧ (after (execQhFrameStart false (framed 384 0 false 6 .realign))).map (·.qh.missing) = some 7 := by decide

theorem test_witness_OtherPulses :
    (framed 376 0 false 0 .realign).qh.pulseMode = .realign ∧ (framed 376 0 false 0 .ignore).qh.pulseMode = .ignore
      ∧ (framed 376 0 false 0 .realign).qh.framing = some ⟨376, 0, false⟩ ∧ 376 / 8 ≠ (46 : SlotNo).val
      ∧ (framed 384 0 true 0 .realign).qh.framing = some ⟨384, 0, true⟩ ∧ State.reset.qh.framing = none := by decide

theorem test_witness_Words :
    ((aligned 4 [39] State.reset).qh.framing = some ⟨376, 3749, false⟩ ∧ 376 / 8 = (47 : SlotNo).val)
      ∧ ((framed 1 0 false 0 .realign).qh.framing = some ⟨1, 0, false⟩ ∧ 1 / 8 = (0 : SlotNo).val)
      ∧ ((aligned 4 [39] State.reset).assembler 0 = .hunt ∧ (aligned 4 [39] State.reset).assembler 47 = .collect 4 [39])
      ∧ [39].length + 1 < 4 ∧ (39 : WordValue).toNat < 40 ∧ 64 ≤ (64 : WordValue).toNat ∧ (95 : WordValue).toNat < 96
      ∧ 40 ≤ (40 : WordValue).toNat ∧ (63 : WordValue).toNat < 64 ∧ 96 ≤ (96 : WordValue).toNat := by decide

theorem test_witness_Blocks :
    blockContents [39, 88, 0x14, 19] = some (.status 39 4 true) ∧ blockContents [39, 88, 0x14, 20] = none
      ∧ blockContents [95, 32, 2, 39, 65] = some (.card 31 (.acquiring 39))
      ∧ blockContents [95, 32, 3, 39, 68] = some (.card 31 (.tracking 39))
      ∧ blockContents [95, 32, 4, 0, 43] = some (.card 31 .free)
      ∧ blockContents [95, 32, 5, 0, 46] = some (.card 31 .withdraw)
      ∧ blockContents [95, 32, 1, 1, 38] = some (.card 31 (.announce .a))
      ∧ blockContents [95, 32, 1, 2, 42] = some (.card 31 (.announce .b))
      ∧ blockContents [95, 32, 1, 3, 46] = some (.card 31 (.announce .c))
      ∧ blockContents [95, 32, 2, 40, 69] = none ∧ blockContents [95, 32, 1, 4, 50] = none
      ∧ (office.ref 39).cfg.slot ≠ some 0 ∧ (lockedOffice.shelf 31).cfg.reportSlot ≠ some 0 := by decide

theorem test_witness_StatusBlocks :
    (aligned 4 [39, 88, 0x14] office).assembler 47 = .collect 4 [39, 88, 0x14]
      ∧ blockContents (([39, 88, 0x14] ++ [19] : List WordValue).map (·.toNat)) = some (.status 39 4 true)
      ∧ (office.ref 39).cfg.slot = some 47
      ∧ (after (execWordReceived 47 19 (aligned 4 [39, 88, 0x14] office))).map
        (fun s => ((s.ref 39).run.candidate, (s.ref 39).run.cardDefect, (s.ref 39).run.availability))
        = some (some 4, true, .failing) := by decide

theorem test_witness_CardReports :
    (aligned 5 [95, 32, 3, 38] lockedOffice).assembler 47 = .collect 5 [95, 32, 3, 38]
      ∧ blockContents (([95, 32, 3, 38] ++ [64] : List WordValue).map (·.toNat)) = some (.card 31 (.tracking 38))
      ∧ (lockedOffice.shelf 31).cfg.reportSlot = some 47
      ∧ (after (execWordReceived 47 64 (aligned 5 [95, 32, 3, 38] lockedOffice))).map
        (fun s => ((s.shelf 31).timing, s.queue.records.map (·.report)))
        = some (some .freeRun, [.start .pin, .lockLost 31 39, .shelfState 31 .freeRun, .refGrade 38 12]) := by decide

/-! ## Witnesses: the Selection Engine -/

/-- Shelf 31 in a timing state, with its silence timer and the entry of ref 39 marked. -/
def shelfIn (t : Timing) (silence : Option SecondTimer) (until' : Nat) (armed : Bool) : State :=
  withShelf 31 { joinedIn t .none [⟨39, false, until', armed⟩] with silence := silence } office

theorem test_witness_SilencesAndMarks :
    ((shelfIn .freeRun (some ⟨0, true⟩) 0 false).shelf 31).silence = some ⟨0, true⟩
      ∧ ((shelfIn .freeRun (some ⟨3, false⟩) 0 false).shelf 31).silence = some ⟨3, false⟩
      ∧ (office.shelf 31).silence = none
      ∧ ((shelfIn .freeRun none 0 true).shelf 31).entry 39 = some ⟨39, false, 0, true⟩
      ∧ ((shelfIn .freeRun none 1 true).shelf 31).entry 39 = some ⟨39, false, 1, true⟩
      ∧ (shelfIn .freeRun none 1 true).now < 1 ∧ ((shelfIn .freeRun none 0 true).shelf 31).entry 38 = none := by decide

theorem test_witness_AcquisitionsAndHoldovers :
    ((shelfIn (.acquire 39 .freeRun ⟨0, true⟩) none 0 false).shelf 31).timing = some (.acquire 39 .freeRun ⟨0, true⟩)
      ∧ ((shelfIn .freeRun none 0 false).shelf 31).timing = some .freeRun
      ∧ ((shelfIn (.holdover ⟨0, false, true⟩) none 0 false).shelf 31).timing.bind Timing.heldOver
        = some ⟨0, false, true⟩
      ∧ ((shelfIn (.holdover ⟨0, false, true⟩) none 0 false).shelf 31).cfg.holdoverLimit ≠ 0
      ∧ (after (execHoldoverAging 31 (shelfIn (.holdover ⟨0, false, true⟩) none 0 false))).map
        (fun s => s.tracedGrade 31) = some 12 := by decide

/-- A pass under way at its position in a visit list. -/
def inPass (visits : List ShelfNo) (position count : Nat) (pending : Bool) (s : State) : State :=
  { s with engine := { s.engine with pass := some ⟨visits, position⟩, passCount := count, passPending := pending } }

theorem test_witness_Passes :
    (lockedOffice.leavePassPending.engine.passPending = true ∧ lockedOffice.leavePassPending.engine.pass = none)
      ∧ lockedOffice.engine.passPending = false
      ∧ (after (execPassStart lockedOffice.leavePassPending)).bind (·.engine.pass) = some ⟨[31], 0⟩
      ∧ ((inPass [31] 1 8 true office).engine.passOver = true
        ∧ 8 ≤ (inPass [31] 1 8 true office).engine.passCount)
      ∧ (inPass [31] 1 7 true office).engine.passCount < 8 ∧ (inPass [31] 1 7 false office).engine.passPending = false
      ∧ (inPass [31] 0 1 false office).engine.passOver = false := by decide

theorem test_witness_Visits :
    (inPass [31] 0 1 false lockedOffice).engine.nextVisit = some 31
      ∧ ((lockedOffice.shelf 31).isJoined = true ∧ (lockedOffice.shelf 31).acquiring = false
        ∧ (lockedOffice.shelf 31).hold = false)
      ∧ (office.shelf 31).isJoined = false
      ∧ ((withShelf 31 { joinedIn .freeRun .none [] with hold := true } office).shelf 31).hold = true
      ∧ (inPass [31] 1 1 false lockedOffice).engine.nextVisit = none ∧ lockedOffice.engine.pass = none := by decide

/-- A revertive shelf with two entries of equal grade, the earlier of which is chosen. -/
def revertive : State :=
  (withRef 39 { lineCfg with staleGrade := 4 } usable
    (withRef 37 { lineCfg with staleGrade := 4 } usable office)).setShelf 31
    { joinedIn .freeRun .none [⟨39, false, 0, false⟩, ⟨37, false, 0, false⟩] with
      cfg := { ShelfConfig.initial with revertive := true } }

theorem test_witness_RevertiveChoice :
    (revertive.shelf 31).cfg.revertive = true ∧ revertive.eligibleRefs 31 = [39, 37]
      ∧ revertive.autoChoice 31 = some 39 ∧ revertive.effectiveGrade 39 = revertive.effectiveGrade 37 := by decide

theorem test_witness_OtherChoices :
    (lockedOffice.shelf 31).request = .none
      ∧ ((withShelf 31 (joinedIn .freeRun (.forced 39) []) office).shelf 31).request = .forced 39
      ∧ ((withShelf 31 (joinedIn .freeRun (.manual 39) []) office).shelf 31).request = .manual 39
      ∧ (lockedOffice.shelf 31).cfg.revertive = false ∧ (lockedOffice.shelf 31).timing = some (.locked 39 0)
      ∧ lockedOffice.eligibleRef 31 39 = false
      ∧ (withRef 39 { lineCfg with staleGrade := 4 } usable lockedOffice).eligibleRef 31 39 = true
      ∧ ((shelfIn .freeRun none 0 false).shelf 31).timing = some .freeRun
      ∧ ((office.ref 38).cfg.kind = .feed ∧ (office.ref 38).cfg.homeShelf = some 31)
      ∧ ((revertive.shelf 31).candidates = [⟨39, false, 0, false⟩] ++ ⟨37, false, 0, false⟩ :: []
        ∧ revertive.eligible 31 ⟨37, false, 0, false⟩ = true ∧ revertive.bestChoice 31 = some 39) := by decide

/-! ## Witnesses: the Distribution Highway -/

/-- The transmitter at a position of a frame, with a slot. -/
def sendingAt (position : Nat) (frame : Option Bool) (n : SlotNo) (x : DhSlot) (s : State) : State :=
  { s with dh := { s.dh with
      ticks := 2500
      position := position
      frame := frame
      slots := s.dh.slots.set n x } }

theorem test_witness_Frames :
    2500 ≤ (sendingAt 1 none 47 ⟨none, none⟩ State.reset).dh.ticks ∧ State.reset.dh.ticks < 2500
      ∧ State.reset.dh.enable = true ∧ (State.reset.setHighway .realign false).dh.enable = false
      ∧ (State.reset.dhSlot 47).block = none
      ∧ ((sendingAt 1 none 47 ⟨some ⟨[1, 2, 3, 4], 4⟩, some 4⟩ State.reset).dhSlot 47).block = some ⟨[1, 2, 3, 4], 4⟩
      ∧ ((sendingAt 1 none 47 ⟨some ⟨[1, 2, 3, 4], 1⟩, some 1⟩ State.reset).dhSlot 47).block
        = some ⟨[1, 2, 3, 4], 1⟩
      ∧ ((sendingAt 1 (some true) 47 ⟨none, none⟩ State.reset).dh.framePulse = true
        ∧ State.reset.dh.framePulse = false)
      ∧ ((sendingAt 384 (some true) 47 ⟨none, some 1⟩ State.reset).dh.position = 8 * 47 + 1 + 7
        ∧ (sendingAt 384 (some true) 47 ⟨none, some 1⟩ State.reset).dh.dataBit = true) := by decide

/-- A block of four words in slot 47: each next word from the slot's first bit on, the block absent at the frame start
after its last word (R136). -/
theorem test_block_words_go_out :
    (DhSlot.atBit 377 376 ⟨some ⟨[1, 2, 3, 4], 3⟩, none⟩ = ⟨some ⟨[1, 2, 3, 4], 3⟩, none⟩)
      ∧ DhSlot.atBit 377 377 ⟨some ⟨[1, 2, 3, 4], 3⟩, none⟩ = ⟨some ⟨[1, 2, 3, 4], 4⟩, some 4⟩
      ∧ DhSlot.atBit 377 384 ⟨some ⟨[1, 2, 3, 4], 4⟩, some 4⟩ = ⟨some ⟨[1, 2, 3, 4], 4⟩, some 4⟩
      ∧ DhSlot.nextFrame ⟨some ⟨[1, 2, 3, 4], 4⟩, some 4⟩ = ⟨none, none⟩
      ∧ DhSlot.atBit 1 9 ⟨some ⟨[1, 2, 3, 4], 4⟩, some 4⟩ = ⟨none, some 4⟩ := by decide

/-- The first frame after a reset starts with its pulse at the first tick (R134). -/
theorem test_first_frame_pulse :
    (after (execDhFrameStart State.reset.idle)).map (fun s => (s.dh.framePulse, s.dh.position)) = some (true, 1) := by
  decide

theorem test_witness_CommandBlocks :
    (sendingAt 249 (some true) 31 ⟨none, none⟩ lockedOffice).dh.frame = some true
      ∧ 8 * 31 + 1 ≤ (sendingAt 249 (some true) 31 ⟨none, none⟩ lockedOffice).dh.position
      ∧ (sendingAt 249 (some true) 31 ⟨none, none⟩ lockedOffice).dhSlot 31 = ⟨none, none⟩
      ∧ (sendingAt 248 (some true) 31 ⟨none, none⟩ lockedOffice).dh.position < 8 * 31 + 1
      ∧ ((sendingAt 249 (some true) 31 ⟨none, some 0⟩ lockedOffice).dhSlot 31).word ≠ none
      ∧ (lockedOffice.shelf 31).command = (3, 39) ∧ (office.shelf 31).command = (1, 0)
      ∧ ((withShelf 31 { Shelf.initial with admission := .rejected .disabled } office).shelf 31).command = (2, 1)
      ∧ ((shelfIn .freeRun none 0 false).shelf 31).command = (4, 0) := by decide

theorem test_witness_QualityBlocks :
    (sendingAt 313 (some true) 39 ⟨none, none⟩ lockedOffice).dh.frame = some true
      ∧ 8 * 39 + 1 ≤ (sendingAt 313 (some true) 39 ⟨none, none⟩ lockedOffice).dh.position
      ∧ lockedOffice.qualitySubject 7 = some 39 ∧ lockedOffice.qualitySubject 15 = none
      ∧ (lockedOffice.ref 39).cfg.kind = .line ∧ (39 : RefNo).val % 16 = (7 : Fin 16).val
      ∧ ((lockedOffice.ref 39).cfg.homeShelf = some 31 ∧ lockedOffice.root 31 = some 39)
      ∧ ((shelfIn .freeRun none 0 false).root 31 ≠ some 39 ∧ (shelfIn .freeRun none 0 false).tracedGrade 31 = 12)
      ∧ (withRef 36 lineCfg usable (withShelf 31 (joinedIn (.locked 39 0) .none []) office)).tracedGrade 31 = 15 := by
  decide

/-! ## Witnesses: the Message Port -/

/-- The receiver in a state. -/
def receiving (x : Receive) (watch : Nat) (s : State) : State :=
  { s with port := { s.port with receive := x, byteWatch := watch } }

theorem test_witness_Bytes :
    State.reset.port.receive = .hunt ∧ (0x00 : Byte) ≠ 0xA5
      ∧ ((receiving .length 0 State.reset).port.receive = .length ∧ 2 ≤ (2 : Byte).toNat ∧ (250 : Byte).toNat ≤ 250
        ∧ (1 : Byte).toNat < 2 ∧ 250 < (251 : Byte).toNat)
      ∧ ((receiving (.body ⟨3, [21], 0, 0⟩) 0 State.reset).port.receive = .body ⟨3, [21], 0, 0⟩ ∧ 1 + 1 < 3)
      ∧ ((receiving (.body ⟨2, [21], 0, 0⟩) 0 State.reset).port.receive = .body ⟨2, [21], 0, 0⟩ ∧ 2 ≤ 1 + 1)
      ∧ (receiving (.check1 ⟨2, [21, 7], 30, 55⟩) 0 State.reset).port.receive = .check1 ⟨2, [21, 7], 30, 55⟩
      ∧ (receiving .length 400000 State.reset).byteWatchDue = true
      ∧ (receiving .length 399999 State.reset).byteWatchDue = false := by decide

theorem test_witness_CompleteFrames :
    (receiving (.check2 ⟨2, [21, 7], 30, 55⟩ 30) 0 State.reset).port.receive = .check2 ⟨2, [21, 7], 30, 55⟩ 30
      ∧ ((30 : Byte).toNat = 30 ∧ (55 : Byte).toNat = 55 ∧ (54 : Byte).toNat ≠ 55)
      ∧ State.reset.port.buffer.length < 2
      ∧ 2 ≤ ({ State.reset with port := { State.reset.port with
          buffer := [frame 21 [], frame 22 []] } }).port.buffer.length := by decide

theorem test_witness_Requests :
    ((22, Instr.reset) ∈ [(1, Instr.configureReference), (22, Instr.reset)])
      ∧ State.reset.port.buffer = [] ∧ (State.reset.replying (frame 21 []) .ok false []).port.transmit ≠ none
      ∧ ((asking State.reset 21 []).port.buffer = [frame 21 []] ∧ (frame 21 []).type.toNat ≠ 22)
      ∧ (asking State.reset 22 []).asks 22 (frame 22 []) := by decide

theorem test_witness_WrongRequests :
    ((asking State.reset 0 []).port.buffer.head? = some (frame 0 []) ∧ (frame 0 []).type.toNat = 0
        ∧ 22 < (frame 23 []).type.toNat ∧ 22 < (frame 255 []).type.toNat)
      ∧ ((frame 21 [0]).type.toNat = 21 ∧ (frame 21 [0]).body.length ≠ 0)
      ∧ ((frame 8 (List.replicate 19 0)).body.length < 20
        ∧ (frame 8 (List.replicate 21 0)).body.length ≠ 20 + 2 * byteAt (List.replicate 21 0) 19)
      ∧ ((frame 16 (List.replicate 4 0)).body.length ≠ 5 ∧ (frame 16 (List.replicate 4 0)).body.length ≠ 6)
      ∧ ((frame 16 (List.replicate 6 0)).body.length = 6 ∧ State.reset.port.mode = .normal)
      ∧ (frame 7 [39, 4]).body.length = 2
      ∧ ((asking (maintained State.reset) 16 (put8 48 ++ [0, 0, 0, 0])).asks 16 (frame 16 (put8 48 ++ [0, 0, 0, 0]))
        ∧ (maintained State.reset).port.mode = .maintenance) := by decide

/-! ## Witnesses: requests -/

/-- The body of a CONFIGURE REFERENCE for ref 39 as a LINE, or with one byte changed. -/
def configureBody (kind home slot source : Byte) : List Byte :=
  [39, kind, home, slot, source, 15, 1, 15, 255, 255] ++ put32 4294967295 ++ put32 4294967295 ++ [255] ++ put16 65535
    ++ [255, 127]

theorem test_witness_ConfigureReference :
    ((asking office 1 (configureBody 1 31 47 1)).asks 1 (frame 1 (configureBody 1 31 47 1)) ∧ office.users 39 = [])
      ∧ configureBody 1 31 47 1 = put8 39 ++ put8 1 ++ put8 31 ++ put8 47 ++ put8 1 ++ put8 15 ++ put8 1 ++ put8 15
        ++ put8 255 ++ put8 255 ++ put32 4294967295 ++ put32 4294967295 ++ put8 255 ++ put16 65535 ++ put8 255
        ++ put8 127
      ∧ (gradeValid 15 = true ∧ (configureBody 1 32 47 1).length = 23 ∧ 32 ≤ byteAt (configureBody 1 32 47 1) 2)
      ∧ 48 ≤ byteAt (configureBody 1 31 48 1) 3 ∧ byteAt (configureBody 4 255 47 1) 2 = 255
      ∧ 1 < byteAt (configureBody 1 31 47 2) 4 ∧ 4 < byteAt (configureBody 5 31 47 1) 1
      ∧ (lockedOffice.shelf 31).selected = some 39
      ∧ (asking lockedOffice 1 (configureBody 1 31 47 1)).asks 1 (frame 1 (configureBody 1 31 47 1)) := by decide

theorem test_witness_Reads :
    (asking office 2 (put8 39)).asks 2 (frame 2 (put8 39)) ∧ (asking office 2 (put8 40)).asks 2 (frame 2 (put8 40))
      ∧ (asking office 9 (put8 31)).asks 9 (frame 9 (put8 31)) ∧ (asking office 9 (put8 32)).asks 9 (frame 9 (put8 32))
      ∧ (asking office 6 (put8 0)).asks 6 (frame 6 (put8 0)) ∧ (asking office 6 (put8 1)).asks 6 (frame 6 (put8 1))
      ∧ (asking office 6 (put8 2)).asks 6 (frame 6 (put8 2)) ∧ (asking office 21 []).asks 21 (frame 21 [])
      ∧ (asking office 21 [0]).asks 21 (frame 21 [0]) := by decide

/-- READ REFERENCE of ref 39: the layout puts the kind first and the set of shelves that follow it last. -/
theorem test_read_reference_reply :
    (after (execReadReference (asking lockedOffice 2 [39]))).bind
      (fun s => s.port.transmit.map fun r => (r.bytes.take 10, (r.bytes.drop 51).take 4))
      = some ([0xA5, 53, 0x82, 7, 0, 0, 1, 31, 47, 0], [0x80, 0, 0, 0]) := by decide

/-- The time in holdover and the aged flag of READ SHELF are absent outside a holdover, and present in one (R77, R169). -/
theorem test_read_shelf_aged_flag :
    (((shelfIn .freeRun none 0 false).shelfResults 31).drop 35).take 5 = [0xFF, 0xFF, 0xFF, 0xFF, 0xFF]
      ∧ (((shelfIn (.holdover ⟨0, false, false⟩) none 0 false).shelfResults 31).drop 35).take 5 = [0, 0, 0, 0, 0]
      ∧ (((shelfIn (.holdover ⟨0, true, false⟩) none 0 false).shelfResults 31).drop 35).take 5 = [0, 0, 0, 0, 1] := by
  decide

theorem test_witness_CodePlansAndOverrides :
    (asking office 5 (put8 1 ++ (List.replicate 16 15).flatMap put8 ++ (List.replicate 13 15).flatMap put8)).asks 5
        (frame 5 (put8 1 ++ (List.replicate 16 15).flatMap put8 ++ (List.replicate 13 15).flatMap put8))
      ∧ (∀ g ∈ List.replicate 16 15, gradeValid g = true) ∧ (∀ x ∈ List.replicate 13 15, x ≤ 15)
      ∧ gradeValid 13 = false ∧ gradeValid 0 = false
      ∧ ((asking (maintained office) 7 (put8 39 ++ put8 12)).asks 7 (frame 7 (put8 39 ++ put8 12))
        ∧ (asking (maintained office) 7 (put8 39 ++ put8 12)).port.mode = .maintenance ∧ gradeValid 12 = true)
      ∧ (asking (maintained office) 7 (put8 40 ++ put8 13)).asks 7 (frame 7 (put8 40 ++ put8 13)) := by
  decide

theorem test_witness_Settings :
    (asking office 4 (putSigned32 (-200001))).asks 4 (frame 4 (putSigned32 (-200001)))
      ∧ (asking office 4 (putSigned32 2147483647)).asks 4 (frame 4 (putSigned32 2147483647))
      ∧ (asking office 14 (put8 1 ++ put8 1)).asks 14 (frame 14 (put8 1 ++ put8 1))
      ∧ (asking office 14 (put8 2 ++ put8 255)).asks 14 (frame 14 (put8 2 ++ put8 255))
      ∧ (asking office 17 (put8 0 ++ put8 255)).asks 17 (frame 17 (put8 0 ++ put8 255))
      ∧ (asking office 15 []).asks 15 (frame 15 []) := by decide

/-- SET OSCILLATOR TRIM with -200,001 stores -200,000 and sets CLAMPED. -/
theorem test_trim_is_clamped :
    (after (execSetOscillatorTrim (asking office 4 (putSigned32 (-200001))))).map
      (fun s => (s.monitor.trim, s.port.transmit.map fun r => (r.bytes.drop 4).take 6))
      = some (-200000, some [0, 1, 0xFF, 0xFC, 0xF2, 0xC0]) := by decide

/-- The body of a CONFIGURE SHELF for shelf 31 with the entries of refs 39 and 38. -/
def shelfBody : List Byte :=
  put8 31 ++ put8 1 ++ put8 7 ++ put8 47 ++ put8 1 ++ put8 0 ++ put8 255 ++ put16 65535 ++ put8 255 ++ put8 0
    ++ put32 4294967295 ++ put16 0 ++ put16 8191 ++ put8 2 ++ [(39, 255), (38, 0)].flatMap fun e : RefNo × Nat =>
      put8 e.1.val ++ put8 e.2

theorem test_witness_ConfigureShelf :
    ((asking lockedOffice 8 shelfBody).asks 8 (frame 8 shelfBody) ∧ shelfBody.length = 20 + 2 * byteAt shelfBody 19)
      ∧ (32 ≤ byteAt (shelfBody.set 0 32) 0 ∧ 48 ≤ byteAt (shelfBody.set 3 48) 3 ∧ byteAt (shelfBody.set 3 48) 3 ≠ 255
        ∧ 40 ≤ byteAt (shelfBody.set 22 40) 22)
      ∧ (byteAt shelfBody 0 < 32 ∧ byteAt shelfBody 3 < 48
        ∧ ∀ i < byteAt shelfBody 19, byteAt shelfBody (20 + 2 * i) < 40)
      ∧ (byteAt (shelfBody.set 22 39) 20 = byteAt (shelfBody.set 22 39) 22 ∧ 1 < byteAt (shelfBody.set 1 2) 1
        ∧ 1 < byteAt (shelfBody.set 4 2) 4 ∧ 7 < byteAt (shelfBody.set 2 8) 2 ∧ 8191 < be16At (shelfBody.set 17 32) 17)
      ∧ (lockedOffice.shelf 31).acquiring = false
      ∧ ([(39, 255), (38, 0)] : List (RefNo × Nat)).map (·.1) = [39, 38]
      ∧ ((shelfIn (.acquire 39 .freeRun ⟨9, false⟩) none 0 false).shelf 31).acquiring = true
      ∧ (office.shelf 31).isJoined = false
      ∧ (lockedOffice.shelf 31).admission = .joined ⟨.a, .locked 39 0, .none, none⟩ := by decide

/-- A limit that stands leaves an aging that is due to its own event, a changed one ages at once, and one whose due time
lies past the top of office time waits (R24, R75). -/
theorem test_holdover_limit_changes :
    ((shelfIn (.holdover ⟨0, false, true⟩) none 0 false).resettleAging 31 86400)
        = shelfIn (.holdover ⟨0, false, true⟩) none 0 false
      ∧ (((atTime 86400 (shelfIn (.holdover ⟨0, false, true⟩) none 0 false)).resettleAging 31 1).shelf 31).heldOver
        = some ⟨0, true, false⟩
      ∧ (((atTime 4294967295 (shelfIn (.holdover ⟨4294967295, false, false⟩) none 0 false)).resettleAging 31 1).shelf
        31).heldOver = some ⟨4294967295, false, false⟩ := by decide

/-- The list of shelfBody locks ref 39 out, so shelf 31 leaves it; the numbers are clamped. -/
theorem test_configure_shelf :
    (after (execConfigureShelf (asking lockedOffice 8 shelfBody))).map
      (fun s => ((s.shelf 31).timing, (s.shelf 31).cfg.minimumGrade, (s.shelf 31).cfg.refusalPeriod,
        s.queue.records.map (·.report))) = some (some .freeRun, 1, 10, [.start .pin, .shelfState 31 .freeRun,
          .refGrade 38 1]) := by decide

theorem test_witness_SelectionLimits :
    (asking lockedOffice 10 (put8 0 ++ put8 255 ++ put8 0)).asks 10 (frame 10 (put8 0 ++ put8 255 ++ put8 0))
      ∧ (∀ h : ShelfNo, (lockedOffice.shelf h).isJoined = true → lockedOffice.depth h ≤ 1)
      ∧ ((withShelf 1 (joinedIn (.locked 37 0) .none []) (withRef 37 { feedCfg with homeShelf := some 0 } usable
          (withShelf 0 (joinedIn (.locked 38 0) .none []) lockedOffice))).shelf 1).isJoined = true
      ∧ 1 < (withShelf 1 (joinedIn (.locked 37 0) .none []) (withRef 37 { feedCfg with homeShelf := some 0 } usable
          (withShelf 0 (joinedIn (.locked 38 0) .none []) lockedOffice))).depth 1 := by decide

theorem test_witness_Switch :
    (asking lockedOffice 11 (put8 31 ++ put8 1 ++ put8 39)).asks 11 (frame 11 (put8 31 ++ put8 1 ++ put8 39))
      ∧ (asking lockedOffice 11 (put8 31 ++ put8 3 ++ put8 255)).asks 11 (frame 11 (put8 31 ++ put8 3 ++ put8 255))
      ∧ (asking office 11 (put8 32 ++ put8 3 ++ put8 40)).asks 11 (frame 11 (put8 32 ++ put8 3 ++ put8 40))
      ∧ (asking office 11 (put8 31 ++ put8 2 ++ put8 40)).asks 11 (frame 11 (put8 31 ++ put8 2 ++ put8 40))
      ∧ (office.shelf 31).isJoined = false
      ∧ ((shelfIn (.acquire 39 .freeRun ⟨9, false⟩) none 0 false).shelf 31).acquiring = true
      ∧ ((withShelf 31 { joinedIn .freeRun .none [] with hold := true } office).shelf 31).hold = true
      ∧ (lockedOffice.shelf 31).entry 0 = none
      ∧ ((withShelf 31 (joinedIn .freeRun .none [⟨39, true, 0, false⟩]) office).shelf 31).entry 39
        = some ⟨39, true, 0, false⟩
      ∧ (lockedOffice.loopFree 31 38 = false ∧ lockedOffice.loopFree 31 39 = true)
      ∧ lockedOffice.eligible 31 ⟨39, false, 0, false⟩ = false
      ∧ revertive.eligible 31 ⟨39, false, 0, false⟩ = true := by decide

theorem test_witness_Lockout :
    (asking lockedOffice 12 (put8 31 ++ put8 39 ++ put8 1)).asks 12 (frame 12 (put8 31 ++ put8 39 ++ put8 1))
      ∧ (asking lockedOffice 12 (put8 32 ++ put8 0 ++ put8 2)).asks 12 (frame 12 (put8 32 ++ put8 0 ++ put8 2))
      ∧ (asking lockedOffice 12 (put8 0 ++ put8 40 ++ put8 1)).asks 12 (frame 12 (put8 0 ++ put8 40 ++ put8 1))
      ∧ (lockedOffice.shelf 31).entry 39 = some ⟨39, false, 0, false⟩ ∧ (lockedOffice.shelf 31).entry 0 = none
      ∧ ((withShelf 31 (joinedIn .freeRun .none [⟨39, true, 0, false⟩]) office).shelf 31).entry 39
        = some ⟨39, true, 0, false⟩ := by decide

/-- A lockout of the reference a shelf is LOCKED on drops the manual request and takes the shelf off it (R126, R127). -/
theorem test_lockout :
    (after (execLockout (asking (withShelf 31 (joinedIn (.locked 39 0) (.manual 39) [⟨39, false, 0, false⟩]) office)
      12 [31, 39, 1]))).map (fun s => ((s.shelf 31).timing, (s.shelf 31).request, s.queue.records.map (·.report)))
      = some (some .freeRun, .none, [.start .pin, .manualDropped 31 39, .shelfState 31 .freeRun, .refGrade 38 12]) := by
  decide

theorem test_witness_Hold :
    (asking office 13 (put8 31 ++ put8 0)).asks 13 (frame 13 (put8 31 ++ put8 0))
      ∧ (asking office 13 (put8 255 ++ put8 1)).asks 13 (frame 13 (put8 255 ++ put8 1))
      ∧ (asking office 13 (put8 32 ++ put8 2)).asks 13 (frame 13 (put8 32 ++ put8 2)) := by decide

theorem test_witness_InjectBlock :
    (asking (maintained office) 16 (put8 47 ++ [BitVec.cons true (64 : WordValue), 0, 0, 0])).asks 16
        (frame 16 (put8 47 ++ [BitVec.cons true (64 : WordValue), 0, 0, 0]))
      ∧ (maintained office).port.mode = .maintenance ∧ office.assembler 47 = .hunt
      ∧ ((39 : WordValue).toNat < 40 ∧ 64 ≤ (95 : WordValue).toNat ∧ (95 : WordValue).toNat < 96)
      ∧ outgoingBlock [39, 88, 4] = [BitVec.cons true (39 : WordValue), BitVec.cons false (88 : WordValue),
        BitVec.cons false (4 : WordValue), BitVec.cons false (99 : WordValue)]
      ∧ blockContents [39, 88, 4, 99] = some (.status 39 4 false) ∧ (office.ref 39).cfg.slot = some 47 := by decide

/-- The status block of ref 39 injected whole is delivered once and leaves the assembler in HUNT (R59). -/
theorem test_inject_block :
    (after (execInjectBlock (asking (maintained office) 16 ([47] ++ outgoingBlock [39, 88, 4])))).map
      (fun s => ((s.ref 39).run.candidate, s.port.transmit.map fun r => (r.bytes.drop 4).take 5))
      = some (some 4, some [0, 0, 1, 0, 0]) := by decide

theorem test_witness_CollectAndEndService :
    ((asking office 18 (put8 0)).asks 18 (frame 18 (put8 0)) ∧ office.queue.service = .closed
        ∧ office.queue.records ≠ [])
      ∧ ({ office with queue := { office.queue with records := [] } }).queue.records = []
      ∧ ({ office with queue := office.queue.openService 16 }).queue.service = .opened
      ∧ ((asking office 19 []).asks 19 (frame 19 [])) := by decide

theorem test_witness_SetModeAndReset :
    (asking office 20 (put8 2)).asks 20 (frame 20 (put8 2))
      ∧ ((asking office 20 (put8 0)).asks 20 (frame 20 (put8 0)) ∧ 0 = office.port.mode.code)
      ∧ ((asking office 20 (put8 1)).asks 20 (frame 20 (put8 1)) ∧ office.port.mode = .normal)
      ∧ ((asking (maintained office) 20 (put8 0)).asks 20 (frame 20 (put8 0))
        ∧ (asking (maintained office) 20 (put8 0)).port.mode = .maintenance)
      ∧ (asking office 22 []).asks 22 (frame 22 []) := by decide

/-! ## Witnesses: the Report Queue and the invariants -/

theorem test_witness_Reports :
    ((Report.refStale 39).subject = .reference 39
        ∧ ((withRef 39 { lineCfg with reportMask := 0 } usable office).ref 39).cfg.reportMask.getLsbD 5 = false)
      ∧ ((Report.holdoverAged 31).subject = .shelf 31
        ∧ ((withShelf 31 { Shelf.initial with cfg := { ShelfConfig.initial with reportMask := 0 } } office).shelf
          31).cfg.reportMask.getLsbD 12 = false)
      ∧ (office.queue.records = [] ++ [⟨.start .pin, 0, 0, 1⟩] ∧ office.queue.inService ≤ 0)
      ∧ ({ office.queue with records := [] }).records = []
      ∧ 64 ≤ ({ office.queue with records := List.replicate 64 ⟨.qhLost, 0, 0, 1⟩ }).records.length := by decide

theorem test_witness_invariants_queue : lockedOffice.queueSound := by decide
theorem test_witness_invariants_clocks : lockedOffice.clocksSound := by decide
theorem test_witness_invariants_inputs : lockedOffice.inputsSound := by decide
theorem test_witness_invariants_channels : lockedOffice.channelsSound := by decide
theorem test_witness_invariants_references : lockedOffice.referencesSound := by decide
theorem test_witness_invariants_grades : lockedOffice.gradesSound := by decide
theorem test_witness_invariants_selections : lockedOffice.selectionsSound := by decide
theorem test_witness_invariants_chains : lockedOffice.chainsSound := by decide

end Sys2Proof.Tests
end

/-!
SUPPORT. What a command's answer holds of the next state, and what each request can do to the state: the layer on
which the proofs of the invariants rest.
-/

namespace Sys2Proof.Machine

open Sys2Proof

/-! ## What every next state holds -/

/-- Every next state that an answer gives meets P. -/
def AnswersOnly (P : State → Prop) (x : Result) : Prop := ∀ t : State, x = .next t → P t

theorem answersOnly_next {P : State → Prop} {s : State} (h : P s) : AnswersOnly P (.next s) := by
  rintro t ⟨⟩
  exact h

theorem answersOnly_fault (P : State → Prop) (e : Fault) : AnswersOnly P (.fault e) := by
  intro t h
  cases h

theorem event_answersOnly {P : State → Prop} {s : State} {f : State → State} (h : P s) (hf : P (f s)) :
    AnswersOnly P (event s f) := by
  rcases event_cases s f with e | e <;> rw [e]
  · exact answersOnly_next h
  · exact answersOnly_next hf

theorem eventIf_answersOnly {P : State → Prop} {d : Bool} {s : State} {f : State → State} (h : P s)
    (hf : d = true → P (f s)) : AnswersOnly P (eventIf d s f) := by
  cases d with
  | false => rw [eventIf_of_not_due false s f rfl]; exact answersOnly_next h
  | true =>
    rcases eventIf_cases true s f with e | e <;> rw [e]
    · exact answersOnly_next h
    · exact answersOnly_next (hf rfl)

theorem onRef_answersOnly {P : State → Prop} {r : Nat} {f : RefNo → Result} (h : ∀ r, AnswersOnly P (f r)) :
    AnswersOnly P (onRef r f) := by
  unfold onRef
  split
  · exact h _
  · exact answersOnly_fault P _

theorem onShelf_answersOnly {P : State → Prop} {h : Nat} {f : ShelfNo → Result} (k : ∀ h, AnswersOnly P (f h)) :
    AnswersOnly P (onShelf h f) := by
  unfold onShelf
  split
  · exact k _
  · exact answersOnly_fault P _

theorem onSlot_answersOnly {P : State → Prop} {n : Nat} {f : SlotNo → Result} (h : ∀ n, AnswersOnly P (f n)) :
    AnswersOnly P (onSlot n f) := by
  unfold onSlot
  split
  · exact h _
  · exact answersOnly_fault P _

end Sys2Proof.Machine

namespace Sys2Proof.Machine

open Sys2Proof

/-! ## What each request can do to the state -/

@[simp] theorem refuse_state (s : State) (st : Status) (rs : List Byte) : (refuse s st rs).state = s := rfl
@[simp] theorem accept_state (s : State) (c : Bool) (rs : List Byte) : (accept s c rs).state = s := rfl

/-- A request is taken: what the state found and every state an owning block leaves meet, the next state meets, where
the transmit state plays no part. -/
theorem takeRequest_answersOnly {P : State → Prop} {named : Nat → Bool} {serve : List Byte → State → Answer} {s : State}
    (port : ∀ (u : State) (x : Option Sending), P u → P { u with port := { u.port with transmit := x } }) (h : P s)
    (hs : ∀ body, P (serve body s).state) : AnswersOnly P (takeRequest named serve s) := by
  rcases takeRequest_cases named serve s with e | ⟨f, -, -, e⟩ <;> rw [e]
  · exact answersOnly_next h
  · exact answersOnly_next (port _ _ (hs f.body))

theorem serveConfigureReference_cases (body : List Byte) (s : State) :
    (serveConfigureReference body s).state = s
      ∨ ∃ r : RefNo, s.users r = [] ∧ configureReferenceBadIndex body = false
          ∧ configureReferenceBadValue body = false
          ∧ (serveConfigureReference body s).state = State.regrading (State.reconfigure r (refConfigOf body)) s := by
  unfold serveConfigureReference
  split_ifs with length index value known free
  · exact .inl rfl
  · exact .inl rfl
  · exact .inl rfl
  · exact .inr ⟨_, by simpa using free, by simpa using index, by simpa using value, rfl⟩
  · exact .inl rfl
  · exact .inl rfl

theorem serveOneReference_cases (body : List Byte) (s : State) (f : RefNo → Answer) :
    (serveOneReference body s f).state = s ∨ ∃ r : RefNo, serveOneReference body s f = f r := by
  unfold serveOneReference
  split_ifs
  · exact .inl rfl
  · exact .inr ⟨_, rfl⟩
  · exact .inl rfl

theorem serveReadReference_state (body : List Byte) (s : State) : (serveReadReference body s).state = s := by
  rcases serveOneReference_cases body s fun r => accept s false (s.referenceResults r) with e | ⟨r, e⟩
  · exact e
  · rw [serveReadReference, e]; rfl

theorem serveClearRestore_cases (body : List Byte) (s : State) :
    (serveClearRestore body s).state = s ∨ ∃ r : RefNo, (serveClearRestore body s).state = s.clearRestoring r := by
  rcases serveOneReference_cases body s fun r =>
    accept (s.clearRestoring r) false (put8 ((s.clearRestoring r).ref r).run.availability.code) with e | ⟨r, e⟩
  · exact .inl e
  · exact .inr ⟨r, by rw [serveClearRestore, e]; rfl⟩

theorem serveSetOscillatorTrim_cases (body : List Byte) (s : State) :
    (serveSetOscillatorTrim body s).state = s
      ∨ ∃ x : Int, (serveSetOscillatorTrim body s).state
          = { s with monitor := { s.monitor with trim := clampTrim x } } := by
  unfold serveSetOscillatorTrim
  split_ifs
  · exact .inl rfl
  · exact .inr ⟨_, rfl⟩

theorem serveLoadCodePlan_cases (body : List Byte) (s : State) :
    (serveLoadCodePlan body s).state = s
      ∨ ∃ p : PlanName, loadCodePlanBadValue body = false
          ∧ (serveLoadCodePlan body s).state = State.regrading (State.setPlan p (codePlanOf body)) s := by
  unfold serveLoadCodePlan
  split_ifs with length value
  · exact .inl rfl
  · exact .inl rfl
  · split
    · exact .inr ⟨_, by simpa using value, rfl⟩
    · exact .inl rfl

theorem serveReadCodePlan_state (body : List Byte) (s : State) : (serveReadCodePlan body s).state = s := by
  unfold serveReadCodePlan
  split_ifs
  · rfl
  · split <;> rfl

theorem serveSetGradeOverride_cases (body : List Byte) (s : State) :
    (serveSetGradeOverride body s).state = s
      ∨ ∃ (r : RefNo) (g : Option Nat), s.port.mode ≠ .normal ∧ g.all gradeValid = true
          ∧ (serveSetGradeOverride body s).state = State.regrading (State.setOverride r g) s := by
  unfold serveSetGradeOverride
  split_ifs with length mode known valid
  · exact .inl rfl
  · exact .inl rfl
  · exact .inl rfl
  · refine .inr ⟨_, overrideOf (byteAt body 1), mode, ?_, rfl⟩
    unfold overrideOf
    split
    · rfl
    · simp_all
  · exact .inl rfl

theorem serveConfigureShelf_cases (body : List Byte) (s : State) :
    (serveConfigureShelf body s).state = s
      ∨ ∃ h : ShelfNo, (s.shelf h).acquiring = false ∧ configureShelfBadIndex body = false
          ∧ configureShelfBadValue body = false
          ∧ (serveConfigureShelf body s).state
            = State.regrading (State.reconfigureShelf h (shelfConfigOf body) (candidatesOf (s.shelf h) body)) s := by
  unfold serveConfigureShelf
  split_ifs with length index value known busy
  · exact .inl rfl
  · exact .inl rfl
  · exact .inl rfl
  · exact .inl rfl
  · exact .inr ⟨_, by simpa using busy, by simpa using index, by simpa using value, rfl⟩
  · exact .inl rfl

theorem serveReadShelf_state (body : List Byte) (s : State) : (serveReadShelf body s).state = s := by
  unfold serveReadShelf
  split_ifs <;> rfl

theorem serveSetSelectionLimits_cases (body : List Byte) (s : State) :
    (serveSetSelectionLimits body s).state = s
      ∨ ∃ depth persistence silence : Nat, s.deeperThan (clampNat 1 6 depth) = false
          ∧ (serveSetSelectionLimits body s).state
            = s.setLimits (clampNat 1 6 depth) (clampNat 1 8 persistence) (clampNat 1 10 silence) := by
  unfold serveSetSelectionLimits
  dsimp only
  split_ifs with length deep
  · exact .inl rfl
  · exact .inl rfl
  · exact .inr ⟨_, _, _, by simpa using deep, rfl⟩

theorem State.switchClear_cases (s : State) (h : ShelfNo) :
    (s.switchClear h).state = s
      ∨ s.switchBarred h = none ∧ (s.switchClear h).state = s.setRequest h .none := by
  unfold State.switchClear
  split
  · exact .inl rfl
  · rename_i free
    exact .inr ⟨free, rfl⟩

theorem State.switchTo_cases (s : State) (h : ShelfNo) (force : Bool) (r : RefNo) :
    (s.switchTo h force r).state = s
      ∨ s.switchBarred h = none ∧ s.switchUnfit h force r = none
          ∧ (s.switchTo h force r).state = s.setRequest h (if force then .forced r else .manual r) := by
  unfold State.switchTo
  split
  · exact .inl rfl
  · rename_i free
    split
    · exact .inl rfl
    · rename_i fit
      exact .inr ⟨free, fit, rfl⟩

/-- SWITCH: nothing, a request removed, or a request written whose tests of R119 have passed. -/
theorem serveSwitch_cases (body : List Byte) (s : State) :
    (serveSwitch body s).state = s
      ∨ (∃ h : ShelfNo, s.switchBarred h = none ∧ (serveSwitch body s).state = s.setRequest h .none)
      ∨ ∃ (h : ShelfNo) (force : Bool) (r : RefNo), s.switchBarred h = none ∧ s.switchUnfit h force r = none
          ∧ (serveSwitch body s).state = s.setRequest h (if force then .forced r else .manual r) := by
  unfold serveSwitch
  split_ifs with length shelf clear action ref
  · exact .inl rfl
  · exact (s.switchClear_cases _).imp_right fun c => .inl ⟨_, c⟩
  · exact .inl rfl
  · exact (s.switchTo_cases _ _ _).imp_right fun c => .inr ⟨_, _, _, c⟩
  · exact .inl rfl
  · exact .inl rfl

theorem serveLockout_cases (body : List Byte) (s : State) :
    (serveLockout body s).state = s
      ∨ ∃ (h : ShelfNo) (r : RefNo) (e : Candidate) (on : Bool), (s.shelf h).entry r = some e
          ∧ (serveLockout body s).state = State.regrading (State.lockOut h r e.lockout on) s := by
  unfold serveLockout
  split_ifs with length shelf ref
  · exact .inl rfl
  · split
    · exact .inl rfl
    · split
      · exact .inl rfl
      · rename_i entry
        exact .inr ⟨_, _, _, _, entry, rfl⟩
  · exact .inl rfl
  · exact .inl rfl

theorem serveHold_cases (body : List Byte) (s : State) :
    (serveHold body s).state = s
      ∨ ∃ (named : ShelfNo → Bool) (on : Bool), (serveHold body s).state = s.setHolds named on := by
  unfold serveHold
  split_ifs
  · exact .inl rfl
  · exact .inl rfl
  · split
    · exact .inl rfl
    · exact .inr ⟨_, _, rfl⟩

theorem serveSetHighway_cases (body : List Byte) (s : State) :
    (serveSetHighway body s).state = s
      ∨ ∃ (mode : PulseMode) (enable : Bool), (serveSetHighway body s).state = s.setHighway mode enable := by
  unfold serveSetHighway
  split_ifs
  · exact .inl rfl
  · split
    · exact .inr ⟨_, _, rfl⟩
    · exact .inl rfl

theorem serveReadHighway_cases (body : List Byte) (s : State) :
    (serveReadHighway body s).state = s ∨ (serveReadHighway body s).state = s.clearCounters := by
  unfold serveReadHighway
  split_ifs
  · exact .inl rfl
  · exact .inr rfl

theorem serveInjectBlock_cases (body : List Byte) (s : State) :
    (serveInjectBlock body s).state = s
      ∨ ∃ (n : SlotNo) (words : List Byte), s.port.mode ≠ .normal
          ∧ (serveInjectBlock body s).state = (s.feedWords n words).1 := by
  unfold serveInjectBlock
  split_ifs with length mode known
  · exact .inl rfl
  · exact .inl rfl
  · exact .inr ⟨_, _, mode, rfl⟩
  · exact .inl rfl

/-- What holds of a state and is kept by every word fed holds once the words are fed. -/
theorem State.feedWords_induction {P : State → Prop} (n : SlotNo)
    (hw : ∀ (w : HighwayWord) (s : State), P s → P (s.feedWord n w)) (words : List Byte) (s : State) (h : P s) :
    P (s.feedWords n words).1 := by
  induction words generalizing s with
  | nil => exact h
  | cons b rest ih => exact ih _ (hw _ s h)

theorem serveSetReporting_cases (body : List Byte) (s : State) :
    (serveSetReporting body s).state = s
      ∨ ∃ threshold ageLimit : Nat, (serveSetReporting body s).state
          = s.setReporting (clampNat 1 64 threshold) (clampNat 0 60 ageLimit) := by
  unfold serveSetReporting
  split_ifs
  · exact .inl rfl
  · exact .inr ⟨_, _, rfl⟩

theorem serveCollect_cases (body : List Byte) (s : State) :
    (serveCollect body s).state = s
      ∨ ∃ most : Nat, (serveCollect body s).state = { s with queue := s.queue.collect (clampNat 1 16 most) } := by
  unfold serveCollect
  split_ifs
  · exact .inl rfl
  · exact .inr ⟨_, rfl⟩

theorem serveEndService_cases (body : List Byte) (s : State) :
    (serveEndService body s).state = s
      ∨ s.queue.service = .opened ∧ (serveEndService body s).state = { s with queue := s.queue.close s.now } := by
  unfold serveEndService
  split_ifs
  · exact .inl rfl
  · split
    · exact .inl rfl
    · rename_i opened
      exact .inr ⟨opened, rfl⟩

theorem serveSetMode_cases (body : List Byte) (s : State) :
    (serveSetMode body s).state = s ∨ ∃ m : Mode, (serveSetMode body s).state = s.changeMode m := by
  unfold serveSetMode
  split_ifs
  · exact .inl rfl
  · split
    · exact .inr ⟨_, rfl⟩
    · exact .inl rfl

theorem serveReadStatus_state (body : List Byte) (s : State) : (serveReadStatus body s).state = s := by
  unfold serveReadStatus
  split_ifs <;> rfl

theorem serveReset_state (body : List Byte) (s : State) : (serveReset body s).state = s := by
  unfold serveReset
  split_ifs <;> rfl

end Sys2Proof.Machine

/-!
SUPPORT. The running part of a reference under a change of its defect condition, and the invariant of the references.
-/

namespace Sys2Proof.Machine

open Sys2Proof

/-! ## The record of a reference that moves -/

@[simp] theorem State.ref_setRun_same (r : RefNo) (f : RefRunning → RefRunning) (s : State) :
    (s.setRun r f).ref r = { s.ref r with run := f (s.ref r).run } := by
  simp [State.setRun]

theorem State.ref_setRun_of_ne {r q : RefNo} (f : RefRunning → RefRunning) (s : State) (h : q ≠ r) :
    (s.setRun r f).ref q = s.ref q := by
  simp [State.setRun, State.ref_setRef, Ne.symm h]

@[simp] theorem State.ref_setAvailability_same (r : RefNo) (a : Availability) (f : Option Nat) (o : Option SecondTimer)
    (s : State) : (s.setAvailability r a f o).ref r
      = { s.ref r with run := { (s.ref r).run with availability := a, failTimer := f, restoreTimer := o } } := by
  simp [State.setAvailability]

@[simp] theorem State.ref_becomeAvailable_same (r : RefNo) (d : AvailableDetail) (s : State) :
    (s.becomeAvailable r d).ref r
      = { s.ref r with run := { (s.ref r).run with
          availability := .available, failTimer := none, restoreTimer := none } } := by
  simp [State.becomeAvailable]

@[simp] theorem State.ref_enterFailed_same (r : RefNo) (d : FailDetail) (s : State) :
    (s.enterFailed r d).ref r
      = { s.ref r with run := { (s.ref r).run with
          availability := .failed, failTimer := none, restoreTimer := none } } := by
  have taken := ShelfMove.foldl (fun t h => t.takeOff h r) (fun t h => t.takeOff_shelfMove h r) allShelves
    ((s.setAvailability r .failed none none).post (.refFailed r d))
  rw [State.enterFailed, taken.ref r]
  simp

theorem State.ref_defectBegins_same (r : RefNo) (s : State) (used : (s.ref r).cfg.kind ≠ .unused) :
    (s.defectBegins r).ref r
      = { s.ref r with run := runAfter (s.ref r) s.time.tickCount s.now false true } := by
  unfold State.defectBegins runAfter
  rcases a : (s.ref r).run.availability with _ | _ | _ | _
  · by_cases immediate : (s.ref r).cfg.failDelay = 0 <;> simp [used, immediate]
  · simp [used]
  · simp [used]
  · simp [used]

theorem State.ref_defectEnds_same (r : RefNo) (s : State) (used : (s.ref r).cfg.kind ≠ .unused) :
    (s.defectEnds r).ref r
      = { s.ref r with run := runAfter (s.ref r) s.time.tickCount s.now true false } := by
  unfold State.defectEnds runAfter
  rcases a : (s.ref r).run.availability with _ | _ | _ | _
  · simp [used]
  · simp [used]
  · by_cases first : (s.ref r).run.firstQualification = true
    · simp [used, first]
    · by_cases immediate : (s.ref r).cfg.restoreDelay = 0
      · simp [used, first, immediate]
      · simp [used, first, immediate, State.timerIn, capTime, Config.topTime]
  · simp [used]

/-- Taking a change of a defect input leaves the running part that the table of section 1.8 gives. -/
theorem State.ref_takeDefect_same (before : State) (r : RefNo) (s : State) :
    (before.takeDefect r s).ref r
      = { s.ref r with run := runAfter (s.ref r) s.time.tickCount s.now (before.defect r) (s.defect r) } := by
  unfold State.takeDefect
  by_cases unused : (s.ref r).cfg.kind = .unused
  · simp [runAfter, unused]
  · rw [if_neg unused]
    rcases before.defect r with _ | _ <;> rcases s.defect r with _ | _
    · simp [runAfter]
    · exact State.ref_defectBegins_same r s unused
    · exact State.ref_defectEnds_same r s unused
    · simp [runAfter]

/-! ## What the invariant of the references reads -/

/-- Availability follows a defect condition (section 1.8). -/
def RefRecord.follows (x : RefRecord) (defect : Bool) : Prop :=
  x.cfg.kind ≠ .unused → (defect = true ↔ x.run.availability = .failing ∨ x.run.availability = .failed)

/-- What the invariant says of one reference: the body of State.ReferencesSound. -/
def State.refSound (s : State) (r : RefNo) : Prop :=
  (s.ref r).sound ∧ (s.ref r).follows (s.defect r) ∧ (s.port.mode = .normal → (s.ref r).run.override = none)

/-- State.referencesSound with its parts named. -/
structure State.ReferencesSound (s : State) : Prop where
  refSound : ∀ r : RefNo, s.refSound r
  least : 1 ≤ s.refs.persistence
  most : s.refs.persistence ≤ 8

theorem State.referencesSound_iff (s : State) : s.ReferencesSound ↔ s.referencesSound :=
  ⟨fun h => ⟨h.refSound, h.least, h.most⟩, fun ⟨refs, least, most⟩ => ⟨refs, least, most⟩⟩

/-- The defect condition reads a channel and the card defect flag (R13). -/
theorem State.defect_congr {s t : State} {r : RefNo} (present : (t.chan r).present = (s.chan r).present)
    (freq : (t.chan r).freq = (s.chan r).freq) (card : (t.ref r).run.cardDefect = (s.ref r).run.cardDefect) :
    t.defect r = s.defect r := by
  simp only [State.defect, present, freq, card]

/-- Nothing that the invariant of the references reads has changed. -/
structure KeepsReferences (s t : State) : Prop where
  ref : ∀ r : RefNo, t.ref r = s.ref r
  present : ∀ r : RefNo, (t.chan r).present = (s.chan r).present
  freq : ∀ r : RefNo, (t.chan r).freq = (s.chan r).freq
  mode : t.port.mode = s.port.mode
  persistence : t.refs.persistence = s.refs.persistence

theorem KeepsReferences.of_blocks {s t : State} (refs : t.refs = s.refs) (monitor : t.monitor = s.monitor)
    (mode : t.port.mode = s.port.mode) : KeepsReferences s t where
  ref r := by unfold State.ref; rw [refs]
  present r := by unfold State.chan; rw [monitor]
  freq r := by unfold State.chan; rw [monitor]
  mode := mode
  persistence := by rw [refs]

theorem KeepsReferences.trans {s t u : State} (a : KeepsReferences s t) (b : KeepsReferences t u) :
    KeepsReferences s u where
  ref r := (b.ref r).trans (a.ref r)
  present r := (b.present r).trans (a.present r)
  freq r := (b.freq r).trans (a.freq r)
  mode := b.mode.trans a.mode
  persistence := b.persistence.trans a.persistence

theorem ShelfMove.keepsReferences {s t : State} (a : ShelfMove s t) : KeepsReferences s t :=
  .of_blocks a.refs a.monitor (by rw [a.port])

theorem KeepsReferences.defect {s t : State} (a : KeepsReferences s t) (r : RefNo) : t.defect r = s.defect r :=
  State.defect_congr (a.present r) (a.freq r) (by rw [a.ref])

theorem KeepsReferences.refSound {s t : State} (a : KeepsReferences s t) {r : RefNo} (h : s.refSound r) :
    t.refSound r := by
  simpa only [State.refSound, a.ref, a.defect, a.mode] using h

theorem KeepsReferences.sound {s t : State} (a : KeepsReferences s t) (h : s.ReferencesSound) :
    t.ReferencesSound := by
  obtain ⟨refs, least, most⟩ := h
  exact ⟨fun r => a.refSound (refs r), a.persistence ▸ least, a.persistence ▸ most⟩

theorem State.ReferencesSound.of_blocks {s t : State} (h : s.ReferencesSound) (refs : t.refs = s.refs)
    (monitor : t.monitor = s.monitor) (mode : t.port.mode = s.port.mode) : t.ReferencesSound :=
  (KeepsReferences.of_blocks refs monitor mode).sound h

/-- Handing on the grades that an event changes leaves the references as the event left them. -/
theorem State.regrading_referencesSound {f : State → State} {s : State} (h : (f s).ReferencesSound) :
    (State.regrading f s).ReferencesSound :=
  (State.handOnGrades_shelfMove s (f s)).keepsReferences.sound h

theorem State.regrading_keepsReferences {f : State → State} {s : State} (h : KeepsReferences s (f s)) :
    KeepsReferences s (State.regrading f s) :=
  h.trans (State.handOnGrades_shelfMove s (f s)).keepsReferences

/-! ## One reference changes -/

/-- Everything that the invariant reads of the references other than r is unchanged. -/
structure KeepsOtherReferences (r : RefNo) (s t : State) : Prop where
  ref : ∀ q : RefNo, q ≠ r → t.ref q = s.ref q
  chan : ∀ q : RefNo, q ≠ r → t.chan q = s.chan q
  mode : t.port.mode = s.port.mode
  persistence : t.refs.persistence = s.refs.persistence

theorem KeepsOtherReferences.trans {r : RefNo} {s t u : State} (a : KeepsOtherReferences r s t)
    (b : KeepsOtherReferences r t u) : KeepsOtherReferences r s u where
  ref q h := (b.ref q h).trans (a.ref q h)
  chan q h := (b.chan q h).trans (a.chan q h)
  mode := b.mode.trans a.mode
  persistence := b.persistence.trans a.persistence

theorem RefMove.keepsOtherReferences {r : RefNo} {s t : State} (a : RefMove r s t) : KeepsOtherReferences r s t where
  ref := a.others
  chan q _ := by unfold State.chan; rw [a.monitor]
  mode := by rw [a.port]
  persistence := a.persistence

theorem State.setRun_keepsOtherReferences (r : RefNo) (f : RefRunning → RefRunning) (s : State) :
    KeepsOtherReferences r s (s.setRun r f) where
  ref _ h := State.ref_setRun_of_ne f s h
  chan _ _ := rfl
  mode := rfl
  persistence := rfl

theorem State.setChan_keepsOtherReferences (r : RefNo) (x : Channel) (s : State) :
    KeepsOtherReferences r s (s.setChan r x) where
  ref _ _ := rfl
  chan q h := by simp [State.chan_setChan, Ne.symm h]
  mode := rfl
  persistence := rfl

theorem KeepsOtherReferences.refSound {r q : RefNo} {s t : State} (a : KeepsOtherReferences r s t) (h : q ≠ r)
    (sound : s.refSound q) : t.refSound q := by
  have defect : t.defect q = s.defect q :=
    State.defect_congr (by rw [a.chan q h]) (by rw [a.chan q h]) (by rw [a.ref q h])
  simpa only [State.refSound, a.ref q h, defect, a.mode] using sound

/-- A sound state in which only one reference changes is sound where that reference is. -/
theorem KeepsOtherReferences.sound {r : RefNo} {s t : State} (a : KeepsOtherReferences r s t)
    (h : s.ReferencesSound) (sound : t.refSound r) : t.ReferencesSound := by
  obtain ⟨refs, least, most⟩ := h
  refine ⟨fun q => ?_, a.persistence ▸ least, a.persistence ▸ most⟩
  by_cases e : q = r
  · exact e ▸ sound
  · exact a.refSound e (refs q)

/-- A record in use that moves to an availability with the timer of that availability, and that holds its first
qualification flag only in FAILED, is sound (R8). -/
theorem RefRecord.sound.moved {x : RefRecord} (sound : x.sound) (used : x.cfg.kind ≠ .unused) {a : Availability}
    {first : Bool} {fail : Option Nat} {restore : Option SecondTimer} (hfail : fail.isSome = true ↔ a = .failing)
    (hrestore : restore.isSome = true ↔ a = .restoring) (hfirst : first = true → a = .failed) :
    ({ x with run := { x.run with
        availability := a, firstQualification := first, failTimer := fail, restoreTimer := restore } } :
      RefRecord).sound := by
  obtain ⟨-, -, -, -, candidate, count⟩ := sound
  exact ⟨hfail, hrestore, hfirst, fun unused => absurd unused used, candidate, count⟩

/-- A record that is neither FAILED nor UNUSED is past its first qualification (R14). -/
theorem RefRecord.sound.past_first_of_ne_failed {x : RefRecord} (sound : x.sound) (h : x.run.availability ≠ .failed) :
    x.cfg.kind ≠ .unused ∧ x.run.firstQualification ≠ true := by
  obtain ⟨-, -, first, unused, -, -⟩ := sound
  exact ⟨fun k => h (unused k).1, fun k => h (first k)⟩

/-- Without a change of the defect condition the table of section 1.8 changes nothing. -/
theorem runAfter_same (x : RefRecord) (tick now : Nat) (d : Bool) : runAfter x tick now d d = x.run := by
  cases d <;> simp [runAfter]

theorem runAfter_begins_sound {x : RefRecord} (tick now : Nat) (sound : x.sound) (used : x.cfg.kind ≠ .unused)
    (follows : x.follows false) :
    ({ x with run := runAfter x tick now false true } : RefRecord).sound
      ∧ ({ x with run := runAfter x tick now false true } : RefRecord).follows true := by
  have agree := follows used
  have first := fun h => (sound.past_first_of_ne_failed h).2
  unfold runAfter
  rw [if_neg used]
  rcases a : x.run.availability with _ | _ | _ | _ <;> simp only [a] at agree first
  case available =>
    dsimp only
    split_ifs
    · exact ⟨sound.moved used (by simp) (by simp) fun _ => rfl, fun _ => by simp⟩
    · exact ⟨sound.moved used (by simp) (by simp) (by simpa using first), fun _ => by simp⟩
  case failing => simp at agree
  case failed => simp at agree
  case restoring => exact ⟨sound.moved used (by simp) (by simp) fun _ => rfl, fun _ => by simp⟩

theorem runAfter_ends_sound {x : RefRecord} (tick now : Nat) (sound : x.sound) (used : x.cfg.kind ≠ .unused)
    (follows : x.follows true) :
    ({ x with run := runAfter x tick now true false } : RefRecord).sound
      ∧ ({ x with run := runAfter x tick now true false } : RefRecord).follows false := by
  have agree := follows used
  have first := fun h => (sound.past_first_of_ne_failed h).2
  unfold runAfter
  rw [if_neg used]
  rcases a : x.run.availability with _ | _ | _ | _ <;> simp only [a] at agree first
  case available => simp at agree
  case failing => exact ⟨sound.moved used (by simp) (by simp) (by simpa using first), fun _ => by simp⟩
  case failed =>
    dsimp only
    split_ifs with qualifying
    · exact ⟨sound.moved used (by simp) (by simp) (by simp), fun _ => by simp⟩
    · exact ⟨sound.moved used (by simp) (by simp) fun h => absurd h qualifying, fun _ => by simp⟩
    · exact ⟨sound.moved used (by simp) (by simp) fun h => absurd h qualifying, fun _ => by simp⟩
  case restoring => simp at agree

/-- The table of section 1.8 keeps a record sound and makes its availability follow the new defect condition. -/
theorem runAfter_sound {x : RefRecord} {before : Bool} (tick now : Nat) (after : Bool) (sound : x.sound)
    (follows : x.follows before) :
    ({ x with run := runAfter x tick now before after } : RefRecord).sound
      ∧ ({ x with run := runAfter x tick now before after } : RefRecord).follows after := by
  by_cases unused : x.cfg.kind = .unused
  · simp only [runAfter, if_pos unused]
    exact ⟨sound, fun used => absurd unused used⟩
  · cases before <;> cases after
    · exact runAfter_same x tick now false ▸ ⟨sound, follows⟩
    · exact runAfter_begins_sound tick now sound unused follows
    · exact runAfter_ends_sound tick now sound unused follows
    · exact runAfter_same x tick now true ▸ ⟨sound, follows⟩

end Sys2Proof.Machine

namespace Sys2Proof.Machine

open Sys2Proof

/-! ## Every event keeps the references sound -/

theorem State.takeDefect_refSound {before s : State} {r : RefNo} (sound : (s.ref r).sound)
    (follows : (s.ref r).follows (before.defect r))
    (override : s.port.mode = .normal → (s.ref r).run.override = none) : (before.takeDefect r s).refSound r := by
  have move := State.takeDefect_refMove before r s
  have defect : (before.takeDefect r s).defect r = s.defect r :=
    State.defect_congr (by simp only [State.chan, move.monitor]) (by simp only [State.chan, move.monitor])
      move.cardDefect
  unfold State.refSound
  rw [defect, move.port, move.override, State.ref_takeDefect_same]
  obtain ⟨sound, follows⟩ := runAfter_sound s.time.tickCount s.now (s.defect r) sound follows
  exact ⟨sound, follows, override⟩

/-- A defect input of ref r changes and the change is taken: the references stay sound. -/
theorem State.takeDefect_referencesSound {before s : State} {r : RefNo} (others : KeepsOtherReferences r before s)
    (h : before.ReferencesSound) (sound : (s.ref r).sound) (follows : (s.ref r).follows (before.defect r))
    (override : s.port.mode = .normal → (s.ref r).run.override = none) : (before.takeDefect r s).ReferencesSound :=
  (others.trans (State.takeDefect_refMove before r s).keepsOtherReferences).sound h
    (State.takeDefect_refSound sound follows override)

theorem State.setChanTaking_referencesSound (r : RefNo) (x : Channel) {s : State} (h : s.ReferencesSound) :
    (s.setChanTaking r x).ReferencesSound := by
  obtain ⟨sound, follows, override⟩ := h.refSound r
  exact State.takeDefect_referencesSound (s.setChan_keepsOtherReferences r x) h sound follows override

theorem State.setCardDefect_referencesSound (r : RefNo) (d : Bool) {s : State} (h : s.ReferencesSound) :
    (s.setCardDefect r d).ReferencesSound := by
  obtain ⟨sound, follows, override⟩ := h.refSound r
  refine State.takeDefect_referencesSound (s.setRun_keepsOtherReferences r _) h ?_ ?_ ?_
  all_goals rw [State.ref_setRun_same]
  · exact sound
  · exact follows
  · exact override

theorem State.postFreq_shelfMove (r : RefNo) (before after : FreqState) (s : State) :
    ShelfMove s (s.postFreq r before after) := by
  unfold State.postFreq
  split
  · exact ShelfMove.refl s
  · exact State.post_shelfMove _ s

theorem State.completeGate_referencesSound (r : RefNo) (ticks : Nat) {s : State} (h : s.ReferencesSound) :
    (s.completeGate r ticks).ReferencesSound := by
  obtain ⟨sound, follows, override⟩ := h.refSound r
  have posted := (s.setChan r ((s.chan r).complete (s.ref r).cfg s.monitor.trim ticks)).postFreq_shelfMove r
    (s.chan r).freq ((s.chan r).complete (s.ref r).cfg s.monitor.trim ticks).freq
  refine State.takeDefect_referencesSound
    ((s.setChan_keepsOtherReferences r _).trans (posted.refMove r).keepsOtherReferences) h ?_ ?_ ?_
  all_goals rw [posted.ref, State.ref_setChan]
  · exact sound
  · exact follows
  · rw [posted.port]; exact override

theorem State.takeEdge_referencesSound (r : RefNo) {s : State} (h : s.ReferencesSound) :
    (s.takeEdge r).ReferencesSound := by
  unfold State.takeEdge
  split
  · split
    · exact State.completeGate_referencesSound r _ h
    · exact State.setChanTaking_referencesSound r _ h
  · exact State.setChanTaking_referencesSound r _ h

theorem State.samplePin_keepsReferences (r : RefNo) (s : State) : KeepsReferences s (s.samplePin r) where
  ref _ := rfl
  present q := by
    rw [State.chan_samplePin]
    split
    · rename_i e; rw [← e]
    · rfl
  freq q := by
    rw [State.chan_samplePin]
    split
    · rename_i e; rw [← e]
    · rfl
  mode := rfl
  persistence := rfl

/-- One reference's running part changes in fields that no defect condition reads. -/
theorem State.setRun_referencesSound {r : RefNo} {f : RefRunning → RefRunning} {s : State} (h : s.ReferencesSound)
    (card : (f (s.ref r).run).cardDefect = (s.ref r).run.cardDefect)
    (sound : ({ s.ref r with run := f (s.ref r).run } : RefRecord).sound)
    (availability : (f (s.ref r).run).availability = (s.ref r).run.availability)
    (override : s.port.mode = .normal → (f (s.ref r).run).override = none) : (s.setRun r f).ReferencesSound := by
  have defect : (s.setRun r f).defect r = s.defect r :=
    State.defect_congr rfl rfl (by rw [State.ref_setRun_same]; exact card)
  refine (s.setRun_keepsOtherReferences r f).sound h ?_
  unfold State.refSound
  rw [defect, State.ref_setRun_same]
  refine ⟨sound, fun used => ?_, override⟩
  obtain ⟨-, follows, -⟩ := h.refSound r
  have agree := follows used
  rwa [← availability] at agree

/-- The persistence filter keeps a candidate exactly while it counts, and counts at most 7 (R64, R115). -/
theorem RefRunning.persist_sound {x : RefRecord} (n : Nat) (c : Code) (sound : x.sound) (most : n ≤ 8) :
    ({ x with run := x.run.persist n c } : RefRecord).sound := by
  obtain ⟨fail, restore, first, unused, candidate, count⟩ := sound
  unfold RefRunning.persist
  split_ifs with adopted repeated full once
  · exact ⟨fail, restore, first, unused, by simp, by simp⟩
  · exact ⟨fail, restore, first, unused, by simp, by simp⟩
  · exact ⟨fail, restore, first, unused, by simp [repeated], by simp only; omega⟩
  · exact ⟨fail, restore, first, unused, by simp, by simp⟩
  · exact ⟨fail, restore, first, unused, by simp, by simp⟩

/-- The persistence filter writes the adopted code, the candidate and its count alone (R64). -/
theorem RefRunning.persist_keeps (n : Nat) (c : Code) (x : RefRunning) :
    (x.persist n c).availability = x.availability ∧ (x.persist n c).cardDefect = x.cardDefect
      ∧ (x.persist n c).override = x.override := by
  unfold RefRunning.persist
  split_ifs <;> exact ⟨rfl, rfl, rfl⟩

theorem State.takeCode_referencesSound (r : RefNo) (c : Code) {s : State} (h : s.ReferencesSound) :
    (s.takeCode r c).ReferencesSound := by
  unfold State.takeCode
  split
  · obtain ⟨sound, -, override⟩ := h.refSound r
    obtain ⟨availability, card, kept⟩ := RefRunning.persist_keeps s.refs.persistence c (s.ref r).run
    exact State.setRun_referencesSound h card (RefRunning.persist_sound _ c sound h.most) availability
      fun mode => kept.trans (override mode)
  · exact h

theorem State.renewAge_referencesSound (r : RefNo) {s : State} (h : s.ReferencesSound) :
    (s.renewAge r).ReferencesSound := by
  obtain ⟨sound, -, override⟩ := h.refSound r
  exact State.setRun_referencesSound h rfl sound rfl override

theorem State.deliverStatus_referencesSound (r : RefNo) (c : Code) (d : Bool) {s : State} (h : s.ReferencesSound) :
    (s.deliverStatus r c d).ReferencesSound := by
  have flagged : (State.regrading (State.setCardDefect r d) (s.renewAge r)).ReferencesSound :=
    State.regrading_referencesSound (State.setCardDefect_referencesSound r d (State.renewAge_referencesSound r h))
  rw [State.deliverStatus]
  exact State.regrading_referencesSound (State.takeCode_referencesSound r c flagged)

theorem State.goStale_referencesSound (r : RefNo) {s : State} (h : s.ReferencesSound) :
    (s.goStale r).ReferencesSound := by
  obtain ⟨⟨fail, restore, first, unused, -, -⟩, -, override⟩ := h.refSound r
  exact State.setCardDefect_referencesSound r false ((State.post_shelfMove _ _).keepsReferences.sound
    (State.setRun_referencesSound h rfl ⟨fail, restore, first, unused, by simp, by simp⟩ rfl override))

/-- A reference in use moves to an availability that its defect condition allows. -/
theorem RefMove.soundReferences {r : RefNo} {s t : State} (move : RefMove r s t) (h : s.ReferencesSound)
    (sound : (t.ref r).sound) (follows : (t.ref r).follows (s.defect r)) : t.ReferencesSound := by
  refine move.keepsOtherReferences.sound h ?_
  have defect : t.defect r = s.defect r :=
    State.defect_congr (by simp only [State.chan, move.monitor]) (by simp only [State.chan, move.monitor])
      move.cardDefect
  obtain ⟨-, -, override⟩ := h.refSound r
  unfold State.refSound
  rw [defect, move.port, move.override]
  exact ⟨sound, follows, override⟩

/-- A FAILING reference becomes FAILED (R15). -/
theorem State.enterFailed_referencesSound (r : RefNo) (d : FailDetail) {s : State} (h : s.ReferencesSound)
    (failing : (s.ref r).run.availability = .failing) : (s.enterFailed r d).ReferencesSound := by
  obtain ⟨sound, follows, -⟩ := h.refSound r
  obtain ⟨used, -⟩ := sound.past_first_of_ne_failed (by rw [failing]; decide)
  refine (s.enterFailed_refMove r d).soundReferences h ?_ ?_
  all_goals rw [State.ref_enterFailed_same]
  · exact sound.moved used (by simp) (by simp) fun _ => rfl
  · exact fun _ => by simp [(follows used).2 (.inl failing)]

/-- A RESTORING reference becomes AVAILABLE (R16, R19). -/
theorem State.becomeAvailable_referencesSound (r : RefNo) (d : AvailableDetail) {s : State} (h : s.ReferencesSound)
    (restoring : (s.ref r).run.availability = .restoring) : (s.becomeAvailable r d).ReferencesSound := by
  obtain ⟨sound, follows, -⟩ := h.refSound r
  obtain ⟨used, first⟩ := sound.past_first_of_ne_failed (by rw [restoring]; decide)
  have clear : s.defect r ≠ true := fun e => by simpa [restoring] using (follows used).1 e
  refine (s.becomeAvailable_refMove r d).soundReferences h ?_ ?_
  all_goals rw [State.ref_becomeAvailable_same]
  · exact sound.moved used (by simp) (by simp) fun e => absurd e first
  · exact fun _ => by simp [clear]

theorem State.failTimerDue_failing {s : State} {r : RefNo} (h : s.failTimerDue r = true) :
    (s.ref r).run.availability = .failing := by
  simp only [State.failTimerDue, Bool.and_eq_true, decide_eq_true_eq] at h
  exact h.1

theorem State.restoreTimerDue_restoring {s : State} {r : RefNo} (h : s.restoreTimerDue r = true) :
    (s.ref r).run.availability = .restoring := by
  simp only [State.restoreTimerDue, Bool.and_eq_true, decide_eq_true_eq] at h
  exact h.1

theorem State.clearRestoring_referencesSound (r : RefNo) {s : State} (h : s.ReferencesSound) :
    (s.clearRestoring r).ReferencesSound := by
  unfold State.clearRestoring
  split
  · rename_i restoring
    exact State.becomeAvailable_referencesSound r .cleared h restoring
  · exact h

/-! ## Requests that write a reference -/

/-- CONFIGURE REFERENCE leaves the record that the request gives, restarted (R10). -/
theorem State.ref_reconfigure (r q : RefNo) (cfg : RefConfig) (s : State) :
    (s.reconfigure r cfg).ref q = if r = q then ⟨cfg, (s.ref r).run.restart⟩ else s.ref q := by
  unfold State.reconfigure
  split <;> simp [State.ref_setRef]

theorem State.chan_reconfigure (r q : RefNo) (cfg : RefConfig) (s : State) :
    (s.reconfigure r cfg).chan q = if r = q then (s.chan r).restart else s.chan q := by
  unfold State.reconfigure
  split <;> simp [State.chan_setChan]

@[simp] theorem State.reconfigure_port (r : RefNo) (cfg : RefConfig) (s : State) :
    (s.reconfigure r cfg).port = s.port := by
  unfold State.reconfigure
  split <;> simp

@[simp] theorem State.reconfigure_persistence (r : RefNo) (cfg : RefConfig) (s : State) :
    (s.reconfigure r cfg).refs.persistence = s.refs.persistence := by
  unfold State.reconfigure
  split <;> simp

/-- A restarted reference is FAILED before its first qualification, and its channel, restarted, is LOST (R10, R25). -/
theorem State.reconfigure_referencesSound (r : RefNo) (cfg : RefConfig) {s : State} (h : s.ReferencesSound) :
    (s.reconfigure r cfg).ReferencesSound := by
  have others : KeepsOtherReferences r s (s.reconfigure r cfg) :=
    { ref := fun q e => by rw [State.ref_reconfigure, if_neg (Ne.symm e)]
      chan := fun q e => by rw [State.chan_reconfigure, if_neg (Ne.symm e)]
      mode := by rw [State.reconfigure_port]
      persistence := State.reconfigure_persistence r cfg s }
  have defect : (s.reconfigure r cfg).defect r = true := by
    simp [State.defect, State.chan_reconfigure, Channel.restart, Channel.initial]
  obtain ⟨-, -, override⟩ := h.refSound r
  refine others.sound h ?_
  unfold State.refSound
  rw [defect, State.ref_reconfigure, if_pos rfl, State.reconfigure_port]
  refine ⟨?_, fun _ => ?_, override⟩
  · simp [RefRecord.sound, RefRunning.restart, RefRunning.initial]
  · simp [RefRunning.restart, RefRunning.initial]

theorem State.setOverride_referencesSound (r : RefNo) (g : Option Nat) {s : State} (h : s.ReferencesSound)
    (mode : s.port.mode ≠ .normal) : (s.setOverride r g).ReferencesSound := by
  obtain ⟨sound, -, -⟩ := h.refSound r
  exact State.setRun_referencesSound h rfl sound rfl fun normal => absurd normal mode

theorem State.setPlan_keepsReferences (p : PlanName) (x : CodePlan) (s : State) :
    KeepsReferences s (s.setPlan p x) := by
  cases p <;> exact ⟨fun _ => rfl, fun _ => rfl, fun _ => rfl, rfl, rfl⟩

@[simp] theorem State.clearOverrides_persistence (s : State) :
    s.clearOverrides.refs.persistence = s.refs.persistence := by simp only [State.clearOverrides]

theorem State.ref_clearOverrides (r : RefNo) (s : State) :
    s.clearOverrides.ref r = { s.ref r with run := { (s.ref r).run with override := none } } := by
  simp [State.clearOverrides, State.ref]

/-- The mode changes and, to NORMAL, the overrides are cleared (R71). -/
theorem State.changeMode_referencesSound (m : Mode) {s : State} (h : s.ReferencesSound) :
    (s.changeMode m).ReferencesSound := by
  have stored (m : Mode) : (s.storeMode m).port.mode = m := by simp [State.storeMode]
  have kept (m : Mode) (r : RefNo) : (s.storeMode m).ref r = s.ref r := by simp [State.storeMode, State.ref]
  have defect (m : Mode) (r : RefNo) : (s.storeMode m).defect r = s.defect r :=
    State.defect_congr (by simp [State.storeMode, State.chan]) (by simp [State.storeMode, State.chan]) (by rw [kept])
  have persistence (m : Mode) : (s.storeMode m).refs.persistence = s.refs.persistence := by simp [State.storeMode]
  unfold State.changeMode
  split
  · exact h
  · cases m with
    | maintenance =>
      refine ⟨fun r => ?_, by rw [persistence]; exact h.least, by rw [persistence]; exact h.most⟩
      obtain ⟨sound, follows, -⟩ := h.refSound r
      unfold State.refSound
      rw [kept, defect, stored]
      exact ⟨sound, follows, nofun⟩
    | normal =>
      refine State.regrading_referencesSound ⟨fun r => ?_,
        by rw [State.clearOverrides_persistence, persistence]; exact h.least,
        by rw [State.clearOverrides_persistence, persistence]; exact h.most⟩
      obtain ⟨sound, follows, -⟩ := h.refSound r
      have cleared : (s.storeMode .normal).clearOverrides.defect r = s.defect r :=
        (State.defect_congr (by simp [State.chan]) (by simp [State.chan]) (by rw [State.ref_clearOverrides])).trans
          (defect .normal r)
      unfold State.refSound
      rw [cleared, State.ref_clearOverrides, kept]
      exact ⟨sound, follows, fun _ => rfl⟩

theorem State.setLimits_referencesSound (depth persistence silence : Nat) {s : State} (h : s.ReferencesSound)
    (least : 1 ≤ persistence) (most : persistence ≤ 8) : (s.setLimits depth persistence silence).ReferencesSound :=
  ⟨h.1, least, most⟩

theorem clampNat_mem (lo hi n : Nat) (h : lo ≤ hi) : lo ≤ clampNat lo hi n ∧ clampNat lo hi n ≤ hi := by
  unfold clampNat
  omega

/-! ## The clocks and the resets -/

theorem State.secondStep_reads (s : State) :
    s.secondStep.monitor = s.monitor ∧ s.secondStep.port = s.port
      ∧ s.secondStep.refs.persistence = s.refs.persistence
      ∧ ∀ r : RefNo, s.secondStep.ref r = (s.ref r).reach s.secondStep.now := by
  simp [State.secondStep, State.reachTimers, State.ref, State.now, mapTable]

/-- A second event reaches a restore timer and leaves it present (R24). -/
theorem RefRecord.sound.reach {x : RefRecord} (sound : x.sound) (now : Nat) : (x.reach now).sound := by
  obtain ⟨fail, restore, first, unused, candidate, count⟩ := sound
  exact ⟨fail, by simpa [RefRecord.reach] using restore, first, unused, candidate, count⟩

theorem State.secondStep_referencesSound {s : State} (h : s.ReferencesSound) : s.secondStep.ReferencesSound := by
  obtain ⟨refs, least, most⟩ := h
  obtain ⟨monitor, port, persistence, reached⟩ := s.secondStep_reads
  refine ⟨fun r => ?_, by rw [persistence]; exact least, by rw [persistence]; exact most⟩
  obtain ⟨sound, follows, override⟩ := refs r
  have defect : s.secondStep.defect r = s.defect r :=
    State.defect_congr (by simp only [State.chan, monitor]) (by simp only [State.chan, monitor]) (by rw [reached]; rfl)
  unfold State.refSound
  rw [defect, reached, port]
  exact ⟨sound.reach _, follows, override⟩

theorem State.closeWatches_keepsReferences (s : State) : KeepsReferences s s.closeWatches where
  ref r := by simp [State.ref]
  present r := by rw [State.chan_closeWatches, Channel.closeWatch]; split <;> rfl
  freq r := by rw [State.chan_closeWatches, Channel.closeWatch]; split <;> rfl
  mode := by simp
  persistence := by simp

theorem State.chan_afterTick (r : RefNo) (s : State) : s.afterTick.chan r = (s.chan r).afterTick := by
  simp [State.afterTick, State.chan, mapTable]

theorem State.afterTick_keepsReferences (s : State) : KeepsReferences s s.afterTick where
  ref r := by simp [State.ref]
  present r := by rw [State.chan_afterTick]; rfl
  freq r := by rw [State.chan_afterTick]; rfl
  mode := by simp only [State.afterTick]
  persistence := by simp

theorem State.idle_keepsReferences (s : State) : KeepsReferences s s.idle := by
  rcases s.idle_cases with e | e | e <;> rw [e]
  · exact .of_blocks rfl rfl rfl
  · exact s.closeWatches_keepsReferences
  · exact s.afterTick_keepsReferences

@[simp] theorem State.ref_afterReset (c : ResetCause) (r : RefNo) :
    (State.afterReset c).ref r = ⟨.initial, .initial⟩ := by
  simp [State.ref, State.afterReset]

@[simp] theorem State.chan_afterReset (c : ResetCause) (r : RefNo) : (State.afterReset c).chan r = .initial := by
  simp [State.chan, State.afterReset]

/-- After reset every reference is UNUSED and FAILED, no timer runs and no override stands (R2). -/
theorem State.afterReset_referencesSound (c : ResetCause) : (State.afterReset c).ReferencesSound := by
  refine ⟨fun r => ?_, by simp [State.afterReset], by simp [State.afterReset]⟩
  unfold State.refSound
  rw [State.ref_afterReset]
  refine ⟨by simp [RefRecord.sound, RefRunning.initial], fun used => absurd rfl used, fun _ => rfl⟩

theorem State.resetBy_referencesSound (c : ResetCause) (s : State) : (s.resetBy c).ReferencesSound :=
  (State.afterReset_referencesSound c).of_blocks rfl rfl rfl

theorem State.endReply_referencesSound {s : State} (h : s.ReferencesSound) : s.endReply.ReferencesSound := by
  unfold State.endReply
  split
  · split
    · exact s.resetBy_referencesSound .request
    · exact h.of_blocks rfl rfl rfl
  · exact h

end Sys2Proof.Machine

namespace Sys2Proof.Machine

open Sys2Proof

/-! ## What shelves, highways and the port do leaves the references -/

theorem State.reject_shelfMove (h : ShelfNo) (reason : RejectReason) (s : State) : ShelfMove s (s.reject h reason) := by
  have written : ShelfMove s (s.setShelf h { s.shelf h with admission := .rejected reason }) :=
    State.setShelf_shelfMove h _ s rfl rfl rfl
  unfold State.reject
  refine ShelfMove.trans ?_ (State.post_shelfMove _ _)
  dsimp only
  split
  · exact written
  · exact written.trans (State.leavePassPending_shelfMove _)

theorem State.admitCard_shelfMove (h : ShelfNo) (cls : CardClass) (s : State) : ShelfMove s (s.admitCard h cls) := by
  unfold State.admitCard
  split_ifs
  · exact s.reject_shelfMove h _
  · exact s.reject_shelfMove h _
  · exact ((s.setAdmission_shelfMove h _).trans (State.post_shelfMove _ _)).trans (State.post_shelfMove _ _)

theorem State.restartCard_shelfMove (h : ShelfNo) (cls : CardClass) (s : State) :
    ShelfMove s (s.restartCard h cls) := by
  have restarted : ShelfMove s ((s.mapCard h fun c => { c with cardClass := cls }).post (.cardRestart h cls)) :=
    (s.mapCard_shelfMove h _).trans (State.post_shelfMove _ _)
  unfold State.restartCard
  dsimp only
  split
  · exact s.reject_shelfMove h _
  · split
    · exact restarted
    · exact restarted.trans (State.moveShelf_shelfMove h _ _)

theorem State.vacate_shelfMove (h : ShelfNo) (rep : Report) (s : State) : ShelfMove s (s.vacate h rep) :=
  (s.setAdmission_shelfMove h _).trans (State.post_shelfMove _ _)

theorem State.loseLock_shelfMove (h : ShelfNo) (r : RefNo) (s : State) : ShelfMove s (s.loseLock h r) :=
  ((s.markRefused_shelfMove h r).trans (State.post_shelfMove _ _)).trans (State.leaveLocked_shelfMove h _)

theorem State.lock_shelfMove (h : ShelfNo) (r : RefNo) (s : State) : ShelfMove s (s.lock h r) :=
  ((s.setTiming_shelfMove h _).trans (State.post_shelfMove _ _)).trans (State.post_shelfMove _ _)

theorem State.takeTracking_shelfMove (h : ShelfNo) (x : RefNo) (s : State) : ShelfMove s (s.takeTracking h x) := by
  unfold State.takeTracking
  split
  · split
    · exact s.lock_shelfMove h _
    · exact ShelfMove.refl s
  · split
    · exact ShelfMove.refl s
    · exact s.loseLock_shelfMove h _
  · exact State.post_shelfMove _ s
  · exact State.post_shelfMove _ s
  · exact ShelfMove.refl s

theorem State.takeFree_shelfMove (h : ShelfNo) (s : State) : ShelfMove s (s.takeFree h) := by
  unfold State.takeFree
  split
  · exact s.loseLock_shelfMove h _
  · exact ShelfMove.refl s

/-- Taking a card report is a move of its shelf (R78 to R80, R84, R87, R88). -/
theorem State.takeReport_shelfMove (h : ShelfNo) (rep : CardReport) (s : State) :
    ShelfMove s (s.takeReport h rep) := by
  unfold State.takeReport
  rcases (s.shelf h).admission with _ | reason | card <;> rcases rep with cls | r | r | _ | _
  case vacant.announce => exact s.admitCard_shelfMove h cls
  case rejected.announce => exact s.admitCard_shelfMove h cls
  case rejected.withdraw => exact s.vacate_shelfMove h _
  case joined.announce => exact s.restartCard_shelfMove h cls
  case joined.tracking => exact s.takeTracking_shelfMove h r
  case joined.free => exact s.takeFree_shelfMove h
  case joined.withdraw => exact s.vacate_shelfMove h _
  all_goals exact ShelfMove.refl s

theorem State.timeOut_shelfMove (h : ShelfNo) (s : State) : ShelfMove s (s.timeOut h) := by
  unfold State.timeOut
  split
  · exact (s.markRefused_shelfMove h _).trans (State.leaveAcquire_shelfMove h _ _)
  · exact ShelfMove.refl s

theorem State.disarmMark_shelfMove (h : ShelfNo) (r : RefNo) (s : State) : ShelfMove s (s.disarmMark h r) :=
  State.setShelf_shelfMove h _ s rfl rfl rfl

theorem State.setRequest_shelfMove (h : ShelfNo) (x : SwitchRequest) (s : State) : ShelfMove s (s.setRequest h x) :=
  (s.mapCard_shelfMove h _).trans (State.leavePassPending_shelfMove _)

theorem State.setLockout_shelfMove (h : ShelfNo) (r : RefNo) (on : Bool) (s : State) :
    ShelfMove s (s.setLockout h r on) := by
  refine ShelfMove.trans ?_ (State.leavePassPending_shelfMove _)
  exact State.setShelf_shelfMove h _ s rfl rfl rfl

theorem State.dropTarget_shelfMove (h : ShelfNo) (r : RefNo) (s : State) : ShelfMove s (s.dropTarget h r) := by
  unfold State.dropTarget
  split
  · exact ShelfMove.refl s
  · split
    · exact s.dropRequest_shelfMove h
    · exact ShelfMove.refl s
  · split
    · exact s.dropRequest_shelfMove h
    · exact ShelfMove.refl s

theorem State.lockOut_shelfMove (h : ShelfNo) (r : RefNo) (was on : Bool) (s : State) :
    ShelfMove s (s.lockOut h r was on) := by
  unfold State.lockOut
  split_ifs
  · exact ShelfMove.refl s
  · exact ((s.setLockout_shelfMove h r true).trans (State.dropTarget_shelfMove h r _)).trans
      (State.takeOff_shelfMove h r _)
  · exact s.setLockout_shelfMove h r false

theorem State.dropUnoffered_shelfMove (h : ShelfNo) (s : State) : ShelfMove s (s.dropUnoffered h) := by
  unfold State.dropUnoffered
  split
  · exact ShelfMove.refl s
  · split
    · exact ShelfMove.refl s
    · exact s.dropRequest_shelfMove h
  · split
    · exact ShelfMove.refl s
    · exact s.dropRequest_shelfMove h

theorem State.resettleAging_shelfMove (h : ShelfNo) (before : Nat) (s : State) :
    ShelfMove s (s.resettleAging h before) := by
  unfold State.resettleAging
  split
  · split_ifs
    · exact ShelfMove.refl s
    · exact s.ageHoldover_shelfMove h
    · exact s.mapCard_shelfMove h _
  · exact ShelfMove.refl s

theorem State.settleShelf_shelfMove (h : ShelfNo) (s : State) : ShelfMove s (s.settleShelf h) := by
  unfold State.settleShelf
  split
  · split_ifs
    · exact s.reject_shelfMove h _
    · exact s.reject_shelfMove h _
    · split
      · split_ifs
        · exact ShelfMove.refl s
        · exact s.leaveLocked_shelfMove h
      · exact ShelfMove.refl s
  · exact ShelfMove.refl s

theorem State.reconfigureShelf_keepsReferences (h : ShelfNo) (cfg : ShelfConfig) (list : List Candidate) (s : State) :
    KeepsReferences s (s.reconfigureShelf h cfg list) := by
  have written : KeepsReferences s (s.setShelf h { s.shelf h with cfg := cfg, candidates := list }) :=
    .of_blocks rfl rfl rfl
  exact written.trans ((((State.dropUnoffered_shelfMove h _).trans (State.resettleAging_shelfMove h _ _)).trans
    (State.settleShelf_shelfMove h _)).trans (State.leavePassPending_shelfMove _)).keepsReferences

theorem State.deliverReport_keepsReferences (h : ShelfNo) (rep : CardReport) (s : State) :
    KeepsReferences s (s.deliverReport h rep) := by
  have renewed : KeepsReferences s (s.renewSilence h) := .of_blocks rfl rfl rfl
  exact renewed.trans (State.regrading_keepsReferences (State.takeReport_shelfMove h rep _).keepsReferences)

theorem State.goSilent_keepsReferences (h : ShelfNo) (s : State) : KeepsReferences s (s.goSilent h) := by
  have silent : KeepsReferences s (s.setShelf h { s.shelf h with silence := none }) := .of_blocks rfl rfl rfl
  unfold State.goSilent
  dsimp only
  split
  · exact silent
  · exact silent.trans (State.vacate_shelfMove h _ _).keepsReferences
  · exact silent.trans (State.vacate_shelfMove h _ _).keepsReferences

theorem State.endPass_keepsReferences (s : State) : KeepsReferences s s.endPass := by
  unfold State.endPass
  split_ifs
  · exact .of_blocks rfl rfl rfl
  · exact .of_blocks rfl rfl rfl
  · exact .of_blocks (by simp) (by simp) (by simp)

theorem State.countMiss_keepsReferences (f : Framing) (s : State) : KeepsReferences s (s.countMiss f) := by
  unfold State.countMiss
  split
  · exact .of_blocks (by simp [State.loseHighway]) (by simp [State.loseHighway]) (by simp [State.loseHighway])
  · exact .of_blocks rfl rfl rfl

theorem State.startFrame_keepsReferences (pulse : Bool) (f : Framing) (s : State) :
    KeepsReferences s (s.startFrame pulse f) := by
  unfold State.startFrame
  split_ifs
  · exact .of_blocks rfl rfl rfl
  · exact .of_blocks rfl rfl rfl
  · exact s.countMiss_keepsReferences _

theorem State.countCheckError_keepsReferences (n : SlotNo) (s : State) : KeepsReferences s (s.countCheckError n) := by
  refine .of_blocks ?_ ?_ ?_ <;> simp [State.countCheckError]

theorem State.countMarkError_keepsReferences (n : SlotNo) (s : State) : KeepsReferences s (s.countMarkError n) := by
  refine .of_blocks ?_ ?_ ?_ <;> simp [State.countMarkError]

theorem State.countMisroute_keepsReferences (tag : Nat) (s : State) : KeepsReferences s (s.countMisroute tag) := by
  refine .of_blocks ?_ ?_ ?_ <;> simp [State.countMisroute]

theorem State.setAssembler_keepsReferences (n : SlotNo) (a : Assembler) (s : State) :
    KeepsReferences s (s.setAssembler n a) := .of_blocks rfl rfl rfl

theorem State.openBlock_keepsReferences (n : SlotNo) (tag : WordValue) (s : State) :
    KeepsReferences s (s.openBlock n tag) := by
  unfold State.openBlock
  split_ifs
  · exact s.setAssembler_keepsReferences n _
  · exact s.setAssembler_keepsReferences n _
  · exact (s.setAssembler_keepsReferences n _).trans (State.countMisroute_keepsReferences _ _)

theorem State.deliver_referencesSound (d : Delivery) {s : State} (h : s.ReferencesSound) :
    (s.deliver d).ReferencesSound := by
  unfold State.deliver
  split
  · exact State.deliverStatus_referencesSound _ _ _ h
  · exact (s.deliverReport_keepsReferences _ _).sound h

theorem State.judgeBlock_referencesSound (n : SlotNo) (words : List WordValue) {s : State} (h : s.ReferencesSound) :
    (s.judgeBlock n words).ReferencesSound := by
  unfold State.judgeBlock
  split
  · exact (s.countCheckError_keepsReferences n).sound h
  · split
    · exact State.deliver_referencesSound _ h
    · exact (s.countMisroute_keepsReferences _).sound h

theorem State.feedWord_referencesSound (n : SlotNo) (w : HighwayWord) (s : State) (h : s.ReferencesSound) :
    (s.feedWord n w).ReferencesSound := by
  have stored (a : Assembler) : (s.setAssembler n a).ReferencesSound :=
    (s.setAssembler_keepsReferences n a).sound h
  unfold State.feedWord
  split
  · exact h
  · exact (s.openBlock_keepsReferences n _).sound h
  · split
    · exact State.judgeBlock_referencesSound n _ (stored .hunt)
    · exact stored _
  · exact ((s.countMarkError_keepsReferences n).trans (State.openBlock_keepsReferences n _ _)).sound h

theorem State.bufferFrame_keepsReferences (f : Frame) (s : State) : KeepsReferences s (s.bufferFrame f) := by
  unfold State.bufferFrame
  split
  · exact .of_blocks rfl rfl rfl
  · exact (State.post_shelfMove _ s).keepsReferences

theorem State.huntAgain_keepsReferences (s : State) : KeepsReferences s s.huntAgain := .of_blocks rfl rfl rfl

theorem State.receiveIn_keepsReferences (x : Receive) (s : State) : KeepsReferences s (s.receiveIn x) :=
  .of_blocks rfl rfl rfl

theorem State.frameComplete_keepsReferences (a : Assembly) (first second : Byte) (s : State) :
    KeepsReferences s (s.frameComplete a first second) := by
  unfold State.frameComplete
  split
  · exact s.huntAgain_keepsReferences.trans (State.bufferFrame_keepsReferences _ _)
  · exact s.huntAgain_keepsReferences.trans (State.post_shelfMove _ _).keepsReferences

theorem State.takeByte_keepsReferences (b : Byte) (s : State) : KeepsReferences s (s.takeByte b) := by
  unfold State.takeByte
  split
  · split
    · exact s.receiveIn_keepsReferences _
    · exact .of_blocks rfl rfl rfl
  · split
    · exact s.receiveIn_keepsReferences _
    · exact s.huntAgain_keepsReferences
  · exact s.receiveIn_keepsReferences _
  · exact s.receiveIn_keepsReferences _
  · exact s.frameComplete_keepsReferences _ _ _

theorem State.takeFaultyByte_keepsReferences (s : State) : KeepsReferences s s.takeFaultyByte := by
  unfold State.takeFaultyByte
  split
  · exact .of_blocks rfl rfl rfl
  · exact s.huntAgain_keepsReferences.trans (State.post_shelfMove _ _).keepsReferences

theorem State.startQuality_keepsReferences (j : Fin 16) (s : State) : KeepsReferences s (s.startQuality j) := by
  unfold State.startQuality
  split <;> exact .of_blocks rfl rfl rfl

/-! ## The commands -/

/-- Taking a request keeps the references sound where its owning block does. -/
theorem takeRequest_referencesSound {named : Nat → Bool} {serve : List Byte → State → Answer} {s : State}
    (h : s.ReferencesSound) (hs : ∀ body, (serve body s).state.ReferencesSound) :
    AnswersOnly State.ReferencesSound (takeRequest named serve s) :=
  takeRequest_answersOnly (fun _ _ sound => sound.of_blocks rfl rfl rfl) h hs

theorem execConfigureReference_referencesSound {s : State} (h : s.ReferencesSound) :
    AnswersOnly State.ReferencesSound (execConfigureReference s) := by
  refine takeRequest_referencesSound h fun body => ?_
  rcases serveConfigureReference_cases body s with e | ⟨r, -, -, -, e⟩ <;> rw [e]
  · exact h
  · exact State.regrading_referencesSound (State.reconfigure_referencesSound r _ h)

theorem execClearRestore_referencesSound {s : State} (h : s.ReferencesSound) :
    AnswersOnly State.ReferencesSound (execClearRestore s) := by
  refine takeRequest_referencesSound h fun body => ?_
  rcases serveClearRestore_cases body s with e | ⟨r, e⟩ <;> rw [e]
  · exact h
  · exact State.clearRestoring_referencesSound r h

theorem execSetOscillatorTrim_referencesSound {s : State} (h : s.ReferencesSound) :
    AnswersOnly State.ReferencesSound (execSetOscillatorTrim s) := by
  refine takeRequest_referencesSound h fun body => ?_
  rcases serveSetOscillatorTrim_cases body s with e | ⟨x, e⟩ <;> rw [e]
  · exact h
  · exact KeepsReferences.sound (s := s) ⟨fun _ => rfl, fun _ => rfl, fun _ => rfl, rfl, rfl⟩ h

theorem execLoadCodePlan_referencesSound {s : State} (h : s.ReferencesSound) :
    AnswersOnly State.ReferencesSound (execLoadCodePlan s) := by
  refine takeRequest_referencesSound h fun body => ?_
  rcases serveLoadCodePlan_cases body s with e | ⟨p, -, e⟩ <;> rw [e]
  · exact h
  · exact (State.regrading_keepsReferences (s.setPlan_keepsReferences p _)).sound h

theorem execSetGradeOverride_referencesSound {s : State} (h : s.ReferencesSound) :
    AnswersOnly State.ReferencesSound (execSetGradeOverride s) := by
  refine takeRequest_referencesSound h fun body => ?_
  rcases serveSetGradeOverride_cases body s with e | ⟨r, g, mode, -, e⟩ <;> rw [e]
  · exact h
  · exact State.regrading_referencesSound (State.setOverride_referencesSound r g h mode)

theorem execConfigureShelf_referencesSound {s : State} (h : s.ReferencesSound) :
    AnswersOnly State.ReferencesSound (execConfigureShelf s) := by
  refine takeRequest_referencesSound h fun body => ?_
  rcases serveConfigureShelf_cases body s with e | ⟨g, -, -, -, e⟩ <;> rw [e]
  · exact h
  · exact (State.regrading_keepsReferences (s.reconfigureShelf_keepsReferences g _ _)).sound h

theorem execSetSelectionLimits_referencesSound {s : State} (h : s.ReferencesSound) :
    AnswersOnly State.ReferencesSound (execSetSelectionLimits s) := by
  refine takeRequest_referencesSound h fun body => ?_
  rcases serveSetSelectionLimits_cases body s with e | ⟨depth, persistence, silence, -, e⟩ <;> rw [e]
  · exact h
  · obtain ⟨least, most⟩ := clampNat_mem 1 8 persistence (by decide)
    exact State.setLimits_referencesSound _ _ _ h least most

theorem execSwitch_referencesSound {s : State} (h : s.ReferencesSound) :
    AnswersOnly State.ReferencesSound (execSwitch s) := by
  refine takeRequest_referencesSound h fun body => ?_
  rcases serveSwitch_cases body s with e | ⟨g, -, e⟩ | ⟨g, force, r, -, -, e⟩ <;> rw [e]
  · exact h
  · exact (s.setRequest_shelfMove g _).keepsReferences.sound h
  · exact (s.setRequest_shelfMove g _).keepsReferences.sound h

theorem execLockout_referencesSound {s : State} (h : s.ReferencesSound) :
    AnswersOnly State.ReferencesSound (execLockout s) := by
  refine takeRequest_referencesSound h fun body => ?_
  rcases serveLockout_cases body s with e | ⟨g, r, entry, on, -, e⟩ <;> rw [e]
  · exact h
  · exact (State.regrading_keepsReferences (s.lockOut_shelfMove g r _ on).keepsReferences).sound h

theorem execHold_referencesSound {s : State} (h : s.ReferencesSound) :
    AnswersOnly State.ReferencesSound (execHold s) := by
  refine takeRequest_referencesSound h fun body => ?_
  rcases serveHold_cases body s with e | ⟨named, on, e⟩ <;> rw [e]
  · exact h
  · exact h.of_blocks (by simp) (by simp) (by simp)

theorem execSetHighway_referencesSound {s : State} (h : s.ReferencesSound) :
    AnswersOnly State.ReferencesSound (execSetHighway s) := by
  refine takeRequest_referencesSound h fun body => ?_
  rcases serveSetHighway_cases body s with e | ⟨mode, enable, e⟩ <;> rw [e]
  · exact h
  · exact h.of_blocks rfl rfl rfl

theorem execReadHighway_referencesSound {s : State} (h : s.ReferencesSound) :
    AnswersOnly State.ReferencesSound (execReadHighway s) := by
  refine takeRequest_referencesSound h fun body => ?_
  rcases serveReadHighway_cases body s with e | e <;> rw [e]
  · exact h
  · exact h.of_blocks rfl rfl rfl

theorem execInjectBlock_referencesSound {s : State} (h : s.ReferencesSound) :
    AnswersOnly State.ReferencesSound (execInjectBlock s) := by
  refine takeRequest_referencesSound h fun body => ?_
  rcases serveInjectBlock_cases body s with e | ⟨n, words, -, e⟩ <;> rw [e]
  · exact h
  · exact State.feedWords_induction n (State.feedWord_referencesSound n) words s h

/-- SET REPORTING, COLLECT and END SERVICE write the Report Queue alone. -/
theorem queueRequests_referencesSound {s : State} (h : s.ReferencesSound) :
    AnswersOnly State.ReferencesSound (execSetReporting s) ∧ AnswersOnly State.ReferencesSound (execCollect s)
      ∧ AnswersOnly State.ReferencesSound (execEndService s) := by
  refine ⟨?_, ?_, ?_⟩ <;> refine takeRequest_referencesSound h fun body => ?_
  · rcases serveSetReporting_cases body s with e | ⟨threshold, ageLimit, e⟩ <;> rw [e]
    · exact h
    · exact h.of_blocks rfl rfl rfl
  · rcases serveCollect_cases body s with e | ⟨most, e⟩ <;> rw [e]
    · exact h
    · exact h.of_blocks rfl rfl rfl
  · rcases serveEndService_cases body s with e | ⟨-, e⟩ <;> rw [e]
    · exact h
    · exact h.of_blocks rfl rfl rfl

theorem execSetMode_referencesSound {s : State} (h : s.ReferencesSound) :
    AnswersOnly State.ReferencesSound (execSetMode s) := by
  refine takeRequest_referencesSound h fun body => ?_
  rcases serveSetMode_cases body s with e | ⟨m, e⟩ <;> rw [e]
  · exact h
  · exact State.changeMode_referencesSound m h

/-- A request that is answered from the state as it is. -/
theorem takeRequest_of_state_referencesSound {named : Nat → Bool} {serve : List Byte → State → Answer} {s : State}
    (h : s.ReferencesSound) (hs : ∀ body, (serve body s).state = s) :
    AnswersOnly State.ReferencesSound (takeRequest named serve s) :=
  takeRequest_referencesSound h fun body => by rwa [hs]

end Sys2Proof.Machine

namespace Sys2Proof.Machine

open Sys2Proof

theorem execEdge_referencesSound (r : Nat) {s : State} (h : s.ReferencesSound) :
    AnswersOnly State.ReferencesSound (execEdge r s) := by
  refine onRef_answersOnly fun r => eventIf_answersOnly h fun _ => ?_
  have sampled := (s.samplePin_keepsReferences r).sound h
  split
  · exact sampled
  · exact State.regrading_referencesSound (State.takeEdge_referencesSound r sampled)

theorem execSignalLost_referencesSound (r : Nat) {s : State} (h : s.ReferencesSound) :
    AnswersOnly State.ReferencesSound (execSignalLost r s) :=
  onRef_answersOnly fun r => eventIf_answersOnly h fun _ =>
    State.regrading_referencesSound (State.setChanTaking_referencesSound r _ h)

theorem execFailTimerExpiry_referencesSound (r : Nat) {s : State} (h : s.ReferencesSound) :
    AnswersOnly State.ReferencesSound (execFailTimerExpiry r s) :=
  onRef_answersOnly fun r => eventIf_answersOnly h fun due =>
    State.regrading_referencesSound (State.enterFailed_referencesSound r .timer h (State.failTimerDue_failing due))

theorem execRestoreTimerExpiry_referencesSound (r : Nat) {s : State} (h : s.ReferencesSound) :
    AnswersOnly State.ReferencesSound (execRestoreTimerExpiry r s) :=
  onRef_answersOnly fun r => eventIf_answersOnly h fun due =>
    State.becomeAvailable_referencesSound r .restored h (State.restoreTimerDue_restoring due)

theorem execMessageAgeExpiry_referencesSound (r : Nat) {s : State} (h : s.ReferencesSound) :
    AnswersOnly State.ReferencesSound (execMessageAgeExpiry r s) :=
  onRef_answersOnly fun r => eventIf_answersOnly h fun _ =>
    State.regrading_referencesSound (State.goStale_referencesSound r h)

theorem execQhFrameStart_referencesSound (pulse : Bool) {s : State} (h : s.ReferencesSound) :
    AnswersOnly State.ReferencesSound (execQhFrameStart pulse s) := by
  refine event_answersOnly h ?_
  split
  · split
    · exact (s.startFrame_keepsReferences pulse _).sound h
    · exact h
  · exact h

theorem execQhSync_referencesSound {s : State} (h : s.ReferencesSound) :
    AnswersOnly State.ReferencesSound (execQhSync s) := by
  have realigned : KeepsReferences s s.realign := by refine .of_blocks ?_ ?_ ?_ <;> simp [State.realign]
  refine event_answersOnly h ?_
  split
  · split
    · exact h
    · exact realigned.sound h
  · exact h

theorem execQhRecovered_referencesSound {s : State} (h : s.ReferencesSound) :
    AnswersOnly State.ReferencesSound (execQhRecovered s) := by
  have recovered : KeepsReferences s s.recoverHighway := by
    refine .of_blocks ?_ ?_ ?_ <;> simp [State.recoverHighway]
  refine event_answersOnly h ?_
  split
  · exact h
  · exact recovered.sound h

theorem execWordReceived_referencesSound (n : Nat) (bits : Byte) {s : State} (h : s.ReferencesSound) :
    AnswersOnly State.ReferencesSound (execWordReceived n bits s) := by
  refine onSlot_answersOnly fun n => event_answersOnly h ?_
  split
  · rename_i f _
    have passed : KeepsReferences s (s.passWord n f) := .of_blocks rfl rfl rfl
    split
    · exact State.feedWord_referencesSound n _ _ (passed.sound h)
    · exact h
  · exact h

/-- A timed event of a shelf that leaves the references. -/
theorem timedShelfEvent_referencesSound {h : Nat} {due : State → ShelfNo → Bool} {f : ShelfNo → State → State}
    {s : State} (sound : s.ReferencesSound) (keeps : ∀ h, KeepsReferences s (f h s)) :
    AnswersOnly State.ReferencesSound (onShelf h fun h => eventIf (due s h) s (State.regrading (f h))) :=
  onShelf_answersOnly fun h => eventIf_answersOnly sound fun _ =>
    (State.regrading_keepsReferences (keeps h)).sound sound

theorem execRefusalMarkRunOut_referencesSound (g r : Nat) {s : State} (h : s.ReferencesSound) :
    AnswersOnly State.ReferencesSound (execRefusalMarkRunOut g r s) :=
  onShelf_answersOnly fun g => onRef_answersOnly fun r => eventIf_answersOnly h fun _ =>
    ((s.disarmMark_shelfMove g r).trans (State.leavePassPending_shelfMove _)).keepsReferences.sound h

theorem execPassVisit_referencesSound {s : State} (h : s.ReferencesSound) :
    AnswersOnly State.ReferencesSound (execPassVisit s) := by
  have advanced : KeepsReferences s { s with engine := s.engine.advance } := .of_blocks rfl rfl rfl
  refine event_answersOnly h ?_
  split
  · exact (advanced.trans
      (State.regrading_keepsReferences (State.visit_shelfMove _ _).keepsReferences)).sound h
  · exact h

theorem execCommandBlockStart_referencesSound (slot : Nat) {s : State} (h : s.ReferencesSound) :
    AnswersOnly State.ReferencesSound (execCommandBlockStart slot s) := by
  unfold execCommandBlockStart
  split
  · exact eventIf_answersOnly h fun _ => h.of_blocks rfl rfl rfl
  · exact answersOnly_fault _ _

theorem execQualityBlockStart_referencesSound (slot : Nat) {s : State} (h : s.ReferencesSound) :
    AnswersOnly State.ReferencesSound (execQualityBlockStart slot s) := by
  unfold execQualityBlockStart
  split
  · exact eventIf_answersOnly h fun _ => (s.startQuality_keepsReferences _).sound h
  · exact answersOnly_fault _ _

theorem execByteReceived_referencesSound (value : Byte) (stopHigh : Bool) {s : State} (h : s.ReferencesSound) :
    AnswersOnly State.ReferencesSound (execByteReceived value stopHigh s) := by
  refine event_answersOnly h ?_
  split
  · exact (s.takeByte_keepsReferences value).sound h
  · exact s.takeFaultyByte_keepsReferences.sound h

theorem execTickEvent_referencesSound {s : State} (h : s.ReferencesSound) :
    AnswersOnly State.ReferencesSound (execTickEvent s) :=
  eventIf_answersOnly h fun _ => h.of_blocks rfl rfl rfl

theorem execPassStart_referencesSound {s : State} (h : s.ReferencesSound) :
    AnswersOnly State.ReferencesSound (execPassStart s) :=
  eventIf_answersOnly h fun _ => h.of_blocks rfl rfl rfl

theorem execDhFrameStart_referencesSound {s : State} (h : s.ReferencesSound) :
    AnswersOnly State.ReferencesSound (execDhFrameStart s) :=
  eventIf_answersOnly h fun _ => h.of_blocks rfl rfl rfl

/-- Every command keeps the references sound. -/
theorem exec_referencesSound (c : Instr) {s : State} (h : s.ReferencesSound) :
    AnswersOnly State.ReferencesSound (exec c s) := by
  obtain ⟨reporting, collecting, ending⟩ := queueRequests_referencesSound h
  cases c with
  | configureReference => exact execConfigureReference_referencesSound h
  | readReference => exact takeRequest_of_state_referencesSound (named := (· == 2)) h (serveReadReference_state · s)
  | clearRestore => exact execClearRestore_referencesSound h
  | setOscillatorTrim => exact execSetOscillatorTrim_referencesSound h
  | loadCodePlan => exact execLoadCodePlan_referencesSound h
  | readCodePlan => exact takeRequest_of_state_referencesSound (named := (· == 6)) h (serveReadCodePlan_state · s)
  | setGradeOverride => exact execSetGradeOverride_referencesSound h
  | configureShelf => exact execConfigureShelf_referencesSound h
  | readShelf => exact takeRequest_of_state_referencesSound (named := (· == 9)) h (serveReadShelf_state · s)
  | setSelectionLimits => exact execSetSelectionLimits_referencesSound h
  | switch => exact execSwitch_referencesSound h
  | lockout => exact execLockout_referencesSound h
  | hold => exact execHold_referencesSound h
  | setHighway => exact execSetHighway_referencesSound h
  | readHighway => exact execReadHighway_referencesSound h
  | injectBlock => exact execInjectBlock_referencesSound h
  | setReporting => exact reporting
  | collect => exact collecting
  | endService => exact ending
  | setMode => exact execSetMode_referencesSound h
  | readStatus => exact takeRequest_of_state_referencesSound (named := (· == 21)) h (serveReadStatus_state · s)
  | reset => exact takeRequest_of_state_referencesSound (named := (· == 22)) h (serveReset_state · s)
  | unknownRequestType =>
    exact takeRequest_of_state_referencesSound (named := fun n => !knownType n) (serve := serveUnknownType) h
      fun _ => refuse_state s .badType []
  | replyEnd => exact eventIf_answersOnly h fun _ => State.endReply_referencesSound h
  | resetPin => exact answersOnly_next (s.resetBy_referencesSound .pin)
  | byteReceived value stopHigh => exact execByteReceived_referencesSound value stopHigh h
  | byteWatchExpiry => exact eventIf_answersOnly h fun _ => s.huntAgain_keepsReferences.sound h
  | tickEvent => exact execTickEvent_referencesSound h
  | secondEvent => exact eventIf_answersOnly h fun _ => State.secondStep_referencesSound h
  | edge r => exact execEdge_referencesSound r h
  | signalLost r => exact execSignalLost_referencesSound r h
  | failTimerExpiry r => exact execFailTimerExpiry_referencesSound r h
  | restoreTimerExpiry r => exact execRestoreTimerExpiry_referencesSound r h
  | qhFrameStart pulse => exact execQhFrameStart_referencesSound pulse h
  | frameWatchRunOut =>
    exact eventIf_answersOnly h fun _ => (s.countMiss_keepsReferences _).sound h
  | qhSync => exact execQhSync_referencesSound h
  | qhRecovered => exact execQhRecovered_referencesSound h
  | wordReceived slot bits => exact execWordReceived_referencesSound slot bits h
  | messageAgeExpiry r => exact execMessageAgeExpiry_referencesSound r h
  | cardSilenceExpiry g => exact timedShelfEvent_referencesSound h fun g => s.goSilent_keepsReferences g
  | acquireExpiry g => exact timedShelfEvent_referencesSound h fun g => (s.timeOut_shelfMove g).keepsReferences
  | holdoverAging g => exact timedShelfEvent_referencesSound h fun g => (s.ageHoldover_shelfMove g).keepsReferences
  | refusalMarkRunOut g r => exact execRefusalMarkRunOut_referencesSound g r h
  | passStart => exact execPassStart_referencesSound h
  | passVisit => exact execPassVisit_referencesSound h
  | passEnd => exact eventIf_answersOnly h fun _ => s.endPass_keepsReferences.sound h
  | dhFrameStart => exact execDhFrameStart_referencesSound h
  | commandBlockStart slot => exact execCommandBlockStart_referencesSound slot h
  | qualityBlockStart slot => exact execQualityBlockStart_referencesSound slot h
  | resetPinAsserted => exact answersOnly_next ((s.resetBy_referencesSound .pin).of_blocks rfl rfl rfl)

theorem step_referencesSound {s : State} (h : s.ReferencesSound) : AnswersOnly State.ReferencesSound (step s) := by
  unfold step
  split
  · rename_i c rest _
    exact exec_referencesSound c (h.of_blocks rfl rfl rfl)
  · exact answersOnly_next (s.idle_keepsReferences.sound h)

/-- Settles O56: each command keeps the references sound, and so does a step on an empty queue. -/
theorem everyStepKeepsTheReferences : Obligations.EveryStepKeepsTheReferences := by
  intro s t taken h
  exact t.referencesSound_iff.1 (step_referencesSound (s.referencesSound_iff.2 h) t taken)

end Sys2Proof.Machine

/-!
SUPPORT. Reports posted one after another, changes of grade handed on, and shelves taken off a reference: each
operation's effect as one equation, so that no later proof unfolds it.
-/

namespace Sys2Proof.Machine

open Sys2Proof

/-! ## Which reports a state lets through -/

/-- Two states let the same reports through and stamp them alike: office time and the report masks agree (R145). -/
structure SameMasks (s t : State) : Prop where
  now : t.now = s.now
  ref : ∀ r : RefNo, (t.ref r).cfg.reportMask = (s.ref r).cfg.reportMask
  shelf : ∀ h : ShelfNo, (t.shelf h).cfg.reportMask = (s.shelf h).cfg.reportMask

theorem SameMasks.refl (s : State) : SameMasks s s := ⟨rfl, fun _ => rfl, fun _ => rfl⟩

theorem SameMasks.symm {s t : State} (a : SameMasks s t) : SameMasks t s :=
  ⟨a.now.symm, fun r => (a.ref r).symm, fun h => (a.shelf h).symm⟩

theorem SameMasks.trans {s t u : State} (a : SameMasks s t) (b : SameMasks t u) : SameMasks s u where
  now := b.now.trans a.now
  ref r := (b.ref r).trans (a.ref r)
  shelf h := (b.shelf h).trans (a.shelf h)

theorem SameMasks.lets {s t : State} (a : SameMasks s t) (rep : Report) : t.lets rep = s.lets rep := by
  unfold State.lets
  split
  · rw [a.ref]
  · rw [a.shelf]
  · rfl

theorem RefMove.sameMasks {r : RefNo} {s t : State} (a : RefMove r s t) : SameMasks s t where
  now := by unfold State.now; rw [a.time]
  ref q := by
    by_cases e : q = r
    · rw [e, a.refCfg]
    · rw [a.others q e]
  shelf h := by rw [a.cfg]

theorem ShelfMove.sameMasks {s t : State} (a : ShelfMove s t) : SameMasks s t where
  now := by unfold State.now; rw [a.time]
  ref q := by rw [a.ref]
  shelf h := by rw [a.cfg]

/-! ## Reports posted one after another -/

theorem State.postAll_nil (s : State) : s.postAll [] = s := rfl

theorem State.postAll_append (a b : List Report) (s : State) : s.postAll (a ++ b) = (s.postAll a).postAll b :=
  List.foldl_append

theorem State.post_sameMasks (rep : Report) (s : State) : SameMasks s (s.post rep) := (s.post_shelfMove rep).sameMasks

theorem State.postAll_sameMasks (reps : List Report) (s : State) : SameMasks s (s.postAll reps) :=
  (ShelfMove.foldl _ (fun t rep => t.post_shelfMove rep) reps s).sameMasks

theorem SameMasks.post_queue {s t : State} (a : SameMasks s t) (queue : t.queue = s.queue) (rep : Report) :
    (t.post rep).queue = (s.post rep).queue := by
  unfold State.post
  rw [a.lets, a.now, queue]
  split
  · rfl
  · exact queue

theorem SameMasks.post {s t : State} (a : SameMasks s t) (rep : Report) : SameMasks (s.post rep) (t.post rep) :=
  ⟨by simpa using a.now, by simpa using a.ref, by simpa using a.shelf⟩

/-- What reports do to the Report Queue rests on the masks, office time and the queue alone. -/
theorem SameMasks.postAll_queue {s t : State} (a : SameMasks s t) (queue : t.queue = s.queue) (reps : List Report) :
    (t.postAll reps).queue = (s.postAll reps).queue := by
  induction reps generalizing s t with
  | nil => exact queue
  | cons rep rest ih => exact ih (a.post rep) (a.post_queue queue rep)

/-- An operation that leads from s to t posts exactly these reports, in this order, and changes no mask. -/
structure Posts (reps : List Report) (s t : State) : Prop where
  masks : SameMasks s t
  queue : t.queue = (s.postAll reps).queue

theorem SameMasks.posts_nil {s t : State} (a : SameMasks s t) (queue : t.queue = s.queue) : Posts [] s t := ⟨a, queue⟩

theorem State.post_posts (rep : Report) (s : State) : Posts [rep] s (s.post rep) := ⟨s.post_sameMasks rep, rfl⟩

theorem Posts.trans {a b : List Report} {s t u : State} (x : Posts a s t) (y : Posts b t u) : Posts (a ++ b) s u where
  masks := x.masks.trans y.masks
  queue := by
    have early : SameMasks (s.postAll a) t := (s.postAll_sameMasks a).symm.trans x.masks
    rw [y.queue, early.postAll_queue x.queue, State.postAll_append]

/-! ## Grades that a state gives -/

theorem State.ref_congr {s t : State} (refs : t.refs = s.refs) (r : RefNo) : t.ref r = s.ref r := by
  unfold State.ref
  rw [refs]

theorem State.plan_congr {s t : State} (refs : t.refs = s.refs) (p : PlanName) : t.plan p = s.plan p := by
  cases p <;> simp only [State.plan, refs]

theorem State.localGrade_congr {s t : State} (refs : t.refs = s.refs) (r : RefNo) :
    t.localGrade r = s.localGrade r := by
  simp only [State.localGrade, State.ref_congr refs, State.plan_congr refs]

/-- Traced grades read the Reference Unit and the shelves (R92). -/
theorem State.tracedFrom_congr {s t : State} (refs : t.refs = s.refs) (shelves : ∀ h, t.shelf h = s.shelf h)
    (fuel : Nat) (h : ShelfNo) : t.tracedFrom fuel h = s.tracedFrom fuel h := by
  induction fuel generalizing h with
  | zero => rfl
  | succ n ih =>
    simp only [State.tracedFrom, shelves, State.ref_congr refs, State.localGrade_congr refs, ih]

theorem State.effectiveGrade_congr {s t : State} (refs : t.refs = s.refs) (shelves : ∀ h, t.shelf h = s.shelf h)
    (r : RefNo) : t.effectiveGrade r = s.effectiveGrade r := by
  simp only [State.effectiveGrade, State.tracedGrade, State.ref_congr refs, State.localGrade_congr refs,
    State.tracedFrom_congr refs shelves]

theorem State.regraded_congr (before : State) {s t : State} (refs : t.refs = s.refs)
    (shelves : ∀ h, t.shelf h = s.shelf h) : before.regraded t = before.regraded s := by
  simp only [State.regraded, State.ref_congr refs, State.effectiveGrade_congr refs shelves]

theorem gradeReports_congr (before : State) {s t : State} (refs : t.refs = s.refs)
    (shelves : ∀ h, t.shelf h = s.shelf h) : gradeReports before t = gradeReports before s := by
  simp only [gradeReports, State.regraded_congr before refs shelves, State.effectiveGrade_congr refs shelves]

/-! ## Handing on changes of grade -/

/-- Grades posted one after another: the reports, and a pass left pending where there is one (R69). -/
theorem State.foldl_postGrade (g : RefNo → Nat) (l : List RefNo) (s : State) :
    l.foldl (fun t r => t.postGrade (g r) r) s
      = { s with
          engine := { s.engine with passPending := s.engine.passPending || !l.isEmpty }
          queue := (s.postAll (l.map fun r => .refGrade r (g r))).queue } := by
  induction l generalizing s with
  | nil => simp [State.postAll_nil]
  | cons r rest ih =>
    have posted := s.post_same (.refGrade r (g r))
    have queue : ((s.postGrade (g r) r).postAll (rest.map fun r => .refGrade r (g r))).queue
        = (s.postAll ((r :: rest).map fun r => .refGrade r (g r))).queue := by
      have masks : SameMasks (s.post (.refGrade r (g r))) (s.postGrade (g r) r) :=
        (State.leavePassPending_shelfMove _).sameMasks
      exact masks.postAll_queue rfl _
    rw [List.foldl_cons, ih, queue]
    unfold State.postGrade
    rw [posted]
    simp [State.leavePassPending]

/-- What handing on the changes of grade does, in one equation (R69, R94). -/
theorem State.handOnGrades_eq (before s : State) :
    before.handOnGrades s
      = { s with
          engine := { s.engine with passPending := s.engine.passPending || !(gradeReports before s).isEmpty }
          queue := (s.postAll (gradeReports before s)).queue } := by
  rw [State.handOnGrades, State.foldl_postGrade, gradeReports, List.isEmpty_map]

@[simp] theorem State.handOnGrades_refs (before s : State) : (before.handOnGrades s).refs = s.refs := by
  rw [State.handOnGrades_eq]

@[simp] theorem gradeReports_handOnGrades (before s : State) :
    gradeReports before (before.handOnGrades s) = gradeReports before s :=
  gradeReports_congr before (before.handOnGrades_refs s) (before.handOnGrades_shelf s)

theorem State.handOnGrades_posts (before s : State) : Posts (gradeReports before s) s (before.handOnGrades s) :=
  ⟨(before.handOnGrades_shelfMove s).sameMasks, by rw [State.handOnGrades_eq]⟩

theorem State.handOnGrades_passPending (before s : State) :
    (before.handOnGrades s).engine.passPending
      = (s.engine.passPending || !(gradeReports before s).isEmpty) := by
  rw [State.handOnGrades_eq]

/-! ## A shelf in another timing state -/

theorem State.shelf_mapCard (h g : ShelfNo) (f : JoinedCard → JoinedCard) (s : State) :
    (s.mapCard h f).shelf g
      = if h = g then
          match (s.shelf h).admission with
          | .joined c => { s.shelf h with admission := .joined (f c) }
          | _ => s.shelf h
        else s.shelf g := by
  unfold State.mapCard Shelf.card
  by_cases e : h = g
  · subst e
    rcases a : (s.shelf h).admission with _ | _ | c <;> simp
  · rcases a : (s.shelf h).admission with _ | _ | c <;> simp [State.shelf_setShelf, e]

theorem State.shelf_setTiming (h g : ShelfNo) (t : Timing) (s : State) :
    (s.setTiming h t).shelf g = if h = g then (s.shelf h).withTiming t else s.shelf g := by
  rw [State.setTiming, State.shelf_leavePassPending, State.shelf_mapCard]
  rfl

@[simp] theorem State.mapCard_queue (h : ShelfNo) (f : JoinedCard → JoinedCard) (s : State) :
    (s.mapCard h f).queue = s.queue := by
  unfold State.mapCard
  split <;> rfl

theorem State.setTiming_posts (h : ShelfNo) (t : Timing) (s : State) : Posts [] s (s.setTiming h t) :=
  (s.setTiming_shelfMove h t).sameMasks.posts_nil (by simp [State.setTiming])

theorem State.shelf_moveShelf (h g : ShelfNo) (t : Timing) (s : State) :
    (s.moveShelf h t).shelf g = if h = g then (s.shelf h).withTiming t else s.shelf g := by
  rw [State.moveShelf, State.shelf_post, State.shelf_setTiming]

theorem State.moveShelf_posts (h : ShelfNo) (t : Timing) (s : State) :
    Posts [.shelfState h t.name] s (s.moveShelf h t) :=
  (s.setTiming_posts h t).trans (State.post_posts _ _)

theorem State.qualifyFallback_eq (s : State) (h : ShelfNo) (r : RefNo) (since : Nat) :
    s.qualifyFallback h since = fallbackOf s h (.locked r since) := by
  simp [State.qualifyFallback, State.qualified, State.newHoldover, fallbackOf]

theorem State.acquireFallback_eq (s : State) (h : ShelfNo) (r : RefNo) (o : Origin) (t : SecondTimer) :
    s.acquireFallback o = fallbackOf s h (.acquire r o t) := by
  rcases o with ⟨_ | _, _⟩ | _ | _ <;> rfl

/-! ## A shelf taken off a reference -/

/-- What taking a shelf off a reference comes to, by the timing state of the shelf (R105). -/
theorem State.takeOff_cases (h : ShelfNo) (r : RefNo) (s : State) :
    (s.takeOff h r = s ∧ shelfOff s r h = s.shelf h ∧ offReports s r h = [])
      ∨ ∃ t : Timing, shelfOff s r h = (s.shelf h).withTiming t
          ∧ ((s.takeOff h r = s.moveShelf h t ∧ offReports s r h = [.shelfState h t.name])
            ∨ (s.takeOff h r = ((s.setTiming h t).post (.acquireAbandoned h r)).post (.shelfState h t.name)
              ∧ offReports s r h = [.acquireAbandoned h r, .shelfState h t.name])) := by
  rcases a : (s.shelf h).timing with _ | t
  · exact .inl (by simp [State.takeOff, shelfOff, offReports, Shelf.selected, a])
  · by_cases follows : t.selected = some r
    · rcases t with _ | ⟨x, o, expiry⟩ | ⟨x, since⟩ | _
      · simp [Timing.selected] at follows
      · obtain rfl : x = r := by simpa [Timing.selected] using follows
        refine .inr ⟨fallbackOf s h (.acquire x o expiry), ?_, .inr ⟨?_, ?_⟩⟩
        · simp [shelfOff, a, Timing.selected]
        · simp [State.takeOff, Shelf.selected, Shelf.acquiring, State.leaveAcquire, a, Timing.selected,
            ← State.acquireFallback_eq]
        · simp [offReports, Shelf.acquiring, a, Timing.selected]
      · obtain rfl : x = r := by simpa [Timing.selected] using follows
        refine .inr ⟨fallbackOf s h (.locked x since), ?_, .inl ⟨?_, ?_⟩⟩
        · simp [shelfOff, a, Timing.selected]
        · simp [State.takeOff, Shelf.selected, Shelf.acquiring, State.leaveLocked, a, Timing.selected,
            ← State.qualifyFallback_eq]
        · simp [offReports, Shelf.acquiring, a, Timing.selected]
      · simp [Timing.selected] at follows
    · exact .inl (by simp [State.takeOff, shelfOff, offReports, Shelf.selected, a, follows])

theorem State.shelf_takeOff (h g : ShelfNo) (r : RefNo) (s : State) :
    (s.takeOff h r).shelf g = if h = g then shelfOff s r h else s.shelf g := by
  rcases s.takeOff_cases h r with ⟨same, off, -⟩ | ⟨t, off, ⟨moved, -⟩ | ⟨moved, -⟩⟩
  · rw [same, off]
    split
    · rename_i e; rw [e]
    · rfl
  · rw [moved, off, State.shelf_moveShelf]
  · rw [moved, off, State.shelf_post, State.shelf_post, State.shelf_setTiming]

theorem State.takeOff_posts (h : ShelfNo) (r : RefNo) (s : State) :
    Posts (offReports s r h) s (s.takeOff h r) := by
  rcases s.takeOff_cases h r with ⟨same, -, none⟩ | ⟨t, -, ⟨moved, posted⟩ | ⟨moved, posted⟩⟩
  · rw [same, none]; exact (SameMasks.refl s).posts_nil rfl
  · rw [moved, posted]; exact s.moveShelf_posts h t
  · rw [moved, posted]
    exact ((s.setTiming_posts h t).trans (State.post_posts _ _)).trans (State.post_posts _ _)

theorem State.takeOff_passPending (h : ShelfNo) (r : RefNo) {s : State} (pending : s.engine.passPending = true) :
    (s.takeOff h r).engine.passPending = true := by
  rcases s.takeOff_cases h r with ⟨same, -, -⟩ | ⟨t, -, ⟨moved, -⟩ | ⟨moved, -⟩⟩
  · rw [same, pending]
  · rw [moved]; simp [State.moveShelf, State.setTiming]
  · rw [moved]; simp [State.setTiming]

theorem fallbackOf_congr {s t : State} {h : ShelfNo} (now : t.now = s.now) (shelf : t.shelf h = s.shelf h)
    (x : Timing) : fallbackOf t h x = fallbackOf s h x := by
  simp only [fallbackOf, now, shelf]

theorem shelfOff_congr {s t : State} {h : ShelfNo} (now : t.now = s.now) (shelf : t.shelf h = s.shelf h) (r : RefNo) :
    shelfOff t r h = shelfOff s r h := by
  simp only [shelfOff, shelf, fallbackOf_congr now shelf]

theorem offReports_congr {s t : State} {h : ShelfNo} (now : t.now = s.now) (shelf : t.shelf h = s.shelf h)
    (r : RefNo) : offReports t r h = offReports s r h := by
  simp only [offReports, shelf, fallbackOf_congr now shelf]

/-- Different shelves taken off a reference one after another: each goes to the fallback it had at the start. -/
theorem State.foldl_takeOff (r : RefNo) (l : List ShelfNo) (distinct : l.Nodup) (s : State) :
    Posts (l.flatMap (offReports s r)) s (l.foldl (fun t h => t.takeOff h r) s)
      ∧ ∀ g : ShelfNo, (l.foldl (fun t h => t.takeOff h r) s).shelf g
          = if g ∈ l then shelfOff s r g else s.shelf g := by
  induction l generalizing s with
  | nil => exact ⟨(SameMasks.refl s).posts_nil rfl, fun g => by simp⟩
  | cons h rest ih =>
    obtain ⟨fresh, distinct⟩ := List.nodup_cons.1 distinct
    have now := (s.takeOff_posts h r).masks.now
    have other (g : ShelfNo) (e : h ≠ g) : (s.takeOff h r).shelf g = s.shelf g := by
      rw [State.shelf_takeOff, if_neg e]
    obtain ⟨posts, shelves⟩ := ih distinct (s.takeOff h r)
    have reports : rest.flatMap (offReports (s.takeOff h r) r) = rest.flatMap (offReports s r) :=
      List.flatMap_congr fun g mem => offReports_congr now (other g fun e => fresh (e ▸ mem)) r
    rw [reports] at posts
    refine ⟨(s.takeOff_posts h r).trans posts, fun g => ?_⟩
    rw [List.foldl_cons, shelves, State.shelf_takeOff]
    by_cases e : h = g
    · subst e; simp [fresh]
    · by_cases mem : g ∈ rest
      · simp [mem, shelfOff_congr now (other g e)]
      · simp [mem, e, Ne.symm e]

/-! ## A reference that enters FAILED -/

theorem State.setAvailability_posts (r : RefNo) (a : Availability) (f : Option Nat) (o : Option SecondTimer)
    (s : State) : Posts [] s (s.setAvailability r a f o) :=
  (s.setAvailability_refMove r a f o).sameMasks.posts_nil rfl

/-- The state in which the shelves are taken off a reference that enters FAILED. -/
theorem State.enterFailed_eq (r : RefNo) (d : FailDetail) (s : State) :
    s.enterFailed r d = allShelves.foldl (fun t h => t.takeOff h r)
      ((s.setAvailability r .failed none none).post (.refFailed r d)) := rfl

theorem mem_allShelves (h : ShelfNo) : h ∈ allShelves := List.mem_finRange h

theorem State.enterFailed_posts (r : RefNo) (d : FailDetail) (s : State) :
    Posts (.refFailed r d :: allShelves.flatMap (offReports s r)) s (s.enterFailed r d) := by
  have start := (s.setAvailability_posts r .failed none none).trans (State.post_posts (.refFailed r d) _)
  obtain ⟨posts, -⟩ := State.foldl_takeOff r allShelves (List.nodup_finRange 32)
    ((s.setAvailability r .failed none none).post (.refFailed r d))
  have reports : offReports ((s.setAvailability r .failed none none).post (.refFailed r d)) r = offReports s r :=
    funext fun h => offReports_congr start.masks.now (by rw [State.shelf_post]; rfl) r
  rw [reports] at posts
  exact start.trans posts

/-- Every shelf that follows a reference entering FAILED is taken off it, and no other changes (R105). -/
theorem State.shelf_enterFailed (r : RefNo) (d : FailDetail) (s : State) (h : ShelfNo) :
    (s.enterFailed r d).shelf h = shelfOff s r h := by
  have start := (s.setAvailability_posts r .failed none none).trans (State.post_posts (.refFailed r d) _)
  obtain ⟨-, shelves⟩ := State.foldl_takeOff r allShelves (List.nodup_finRange 32)
    ((s.setAvailability r .failed none none).post (.refFailed r d))
  rw [State.enterFailed_eq, shelves, if_pos (mem_allShelves h)]
  exact shelfOff_congr start.masks.now (by rw [State.shelf_post]; rfl) r

theorem State.foldl_takeOff_passPending (r : RefNo) (l : List ShelfNo) {s : State}
    (pending : s.engine.passPending = true) :
    (l.foldl (fun t h => t.takeOff h r) s).engine.passPending = true := by
  induction l generalizing s with
  | nil => exact pending
  | cons h rest ih => exact ih (State.takeOff_passPending h r pending)

theorem State.enterFailed_passPending (r : RefNo) (d : FailDetail) (s : State) :
    (s.enterFailed r d).engine.passPending = true := by
  rw [State.enterFailed_eq]
  exact State.foldl_takeOff_passPending r allShelves (by rw [State.post_engine]; rfl)

theorem shelfOff_keeps (s : State) (r : RefNo) (h : ShelfNo) :
    (shelfOff s r h).candidates = (s.shelf h).candidates ∧ (shelfOff s r h).silence = (s.shelf h).silence := by
  unfold shelfOff Shelf.withTiming
  split
  · split
    · split <;> exact ⟨rfl, rfl⟩
    · exact ⟨rfl, rfl⟩
  · exact ⟨rfl, rfl⟩

/-! ## What a move of a reference leaves, in the words of the statements -/

theorem RefMove.keepsSettings {r : RefNo} {s t : State} (a : RefMove r s t) : KeepsSettings s t := by
  refine ⟨a.time, a.dh, a.resetHeld, a.pending, by rw [a.monitor], a.planA, a.planB, a.persistence, a.depthLimit,
    a.silenceLimit, a.pass, a.passCount, fun q => ?_, a.cfg, a.hold, a.service⟩
  by_cases e : q = r
  · rw [e, a.refCfg]
  · rw [a.others q e]

theorem RefMove.keepsIncoming {r : RefNo} {s t : State} (a : RefMove r s t) : KeepsIncoming s t := ⟨a.qh, a.port⟩

theorem RefMove.keepsOtherRefs {r : RefNo} {s t : State} (a : RefMove r s t) : KeepsOtherRefs r s t :=
  fun q e => ⟨a.others q e, by unfold State.chan; rw [a.monitor]⟩

end Sys2Proof.Machine

/-!
SUPPORT. The expiry of the fail timer and of the restore timer, and CLEAR RESTORE.
-/

namespace Sys2Proof.Machine

open Sys2Proof

/-! ## A body that is one byte -/

@[simp] theorem length_put8 (n : Nat) : (put8 n).length = 1 := rfl

theorem byteAt_put8 {n : Nat} (h : n ≤ 255) : byteAt (put8 n) 0 = n := by
  simp [byteAt, put8]
  omega

theorem serveOneReference_of_ref (r : RefNo) (s : State) (f : RefNo → Answer) :
    serveOneReference (put8 r.val) s f = f r := by
  have byte : byteAt (put8 r.val) 0 = r.val := byteAt_put8 (by omega)
  simp [serveOneReference, byte]

theorem serveOneReference_of_outside {n : Nat} (least : 40 ≤ n) (most : n ≤ 255) (s : State) (f : RefNo → Answer) :
    serveOneReference (put8 n) s f = refuse s .badIndex [] := by
  simp [serveOneReference, byteAt_put8 most, least]

/-! ## When the timers are due -/

theorem State.failTimerDue_iff (s : State) (r : RefNo) :
    s.failTimerDue r = true
      ↔ (s.ref r).run.availability = .failing ∧ ∃ n, (s.ref r).run.failTimer = some n ∧ n ≤ s.time.tickCount := by
  unfold State.failTimerDue
  split
  · rename_i n timer
    simp [timer]
  · rename_i timer
    simp [timer]

theorem State.restoreTimerDue_iff (s : State) (r : RefNo) :
    s.restoreTimerDue r = true
      ↔ (s.ref r).run.availability = .restoring ∧ ∃ x, (s.ref r).run.restoreTimer = some ⟨x, true⟩ := by
  unfold State.restoreTimerDue timerReached
  split
  · rename_i t timer
    rcases t with ⟨x, _ | _⟩ <;> simp [timer]
  · rename_i timer
    simp [timer]

/-! ## The events -/

theorem execFailTimerExpiry_of_due {s : State} {r : RefNo} (running : s.resetHeld = false)
    (due : s.failTimerDue r = true) :
    exec (.failTimerExpiry r.val) s = .next (State.regrading (State.enterFailed r .timer) s) := by
  rw [exec, execFailTimerExpiry, onRef_of_lt r.val r.isLt]
  exact eventIf_of_due _ s _ running due

theorem execFailTimerExpiry_of_not_due {s : State} {r : RefNo} (h : ¬ s.failTimerDue r = true) :
    exec (.failTimerExpiry r.val) s = .next s := by
  rw [exec, execFailTimerExpiry, onRef_of_lt r.val r.isLt]
  exact eventIf_of_not_due _ s _ (by simpa using h)

theorem execRestoreTimerExpiry_of_due {s : State} {r : RefNo} (running : s.resetHeld = false)
    (due : s.restoreTimerDue r = true) :
    exec (.restoreTimerExpiry r.val) s = .next (s.becomeAvailable r .restored) := by
  rw [exec, execRestoreTimerExpiry, onRef_of_lt r.val r.isLt]
  exact eventIf_of_due _ s _ running due

theorem execRestoreTimerExpiry_of_not_due {s : State} {r : RefNo} (h : ¬ s.restoreTimerDue r = true) :
    exec (.restoreTimerExpiry r.val) s = .next s := by
  rw [exec, execRestoreTimerExpiry, onRef_of_lt r.val r.isLt]
  exact eventIf_of_not_due _ s _ (by simpa using h)

/-- A reference that enters FAILED, and the grades that change with it: the record, the shelves, the reports, and all
that stays (R15, R94, R105). -/
theorem State.regrading_enterFailed (r : RefNo) (d : FailDetail) (s : State) :
    ∃ t : State, State.regrading (State.enterFailed r d) s = t
      ∧ (t.ref r).run = { (s.ref r).run with availability := .failed, failTimer := none, restoreTimer := none }
      ∧ (∀ h : ShelfNo, t.shelf h = shelfOff s r h) ∧ t.engine.passPending = true
      ∧ t.queue = (s.postAll (.refFailed r d :: allShelves.flatMap (offReports s r) ++ gradeReports s t)).queue
      ∧ t.monitor = s.monitor ∧ KeepsSettings s t ∧ KeepsIncoming s t ∧ KeepsOtherRefs r s t ∧ KeepsLists s t := by
  have handed := s.handOnGrades_shelfMove (s.enterFailed r d)
  have move := (s.enterFailed_refMove r d).trans (handed.refMove r)
  have shelves (h : ShelfNo) : (s.handOnGrades (s.enterFailed r d)).shelf h = shelfOff s r h := by
    rw [State.handOnGrades_shelf, State.shelf_enterFailed]
  have posts := (s.enterFailed_posts r d).trans (s.handOnGrades_posts (s.enterFailed r d))
  refine ⟨s.handOnGrades (s.enterFailed r d), rfl, ?_, shelves, ?_, ?_, move.monitor, move.keepsSettings,
    move.keepsIncoming, move.keepsOtherRefs, fun h => ?_⟩
  · rw [handed.ref, State.ref_enterFailed_same]
  · rw [State.handOnGrades_passPending, State.enterFailed_passPending, Bool.true_or]
  · rw [posts.queue, gradeReports_handOnGrades]
  · rw [shelves]
    exact shelfOff_keeps s r h

theorem execClearRestore_of_ref {s : State} {f : Frame} {r : RefNo} (asks : s.asks 3 f) (body : f.body = put8 r.val) :
    exec .clearRestore s
      = .next ((s.clearRestoring r).replying f .ok false
          (put8 ((s.clearRestoring r).ref r).run.availability.code)) := by
  rw [exec, execClearRestore, takeRequest_of_asks _ _ s 3 f asks rfl, serveClearRestore, body,
    serveOneReference_of_ref, State.sendReply_accept]

/-- Settles O12, by whether each timer is due and whether the reference is RESTORING. -/
theorem timersEndFailingAndRestoring : Obligations.TimersEndFailingAndRestoring := by
  refine ⟨fun s r running => ⟨?_, ?_, ?_, ?_⟩, fun s f r asks body => ⟨?_, ?_⟩, ?_⟩
  · intro n failing timer reached
    obtain ⟨t, event, effect⟩ := s.regrading_enterFailed r .timer
    refine ⟨t, ?_, effect⟩
    rw [execFailTimerExpiry_of_due running ((s.failTimerDue_iff r).2 ⟨failing, n, timer, reached⟩), event]
  · intro early
    refine execFailTimerExpiry_of_not_due fun due => ?_
    obtain ⟨failing, n, timer, reached⟩ := (s.failTimerDue_iff r).1 due
    rcases early with other | absent | ⟨m, later, toCome⟩
    · exact other failing
    · simp [absent] at timer
    · obtain rfl : m = n := by simpa [later] using timer
      omega
  · intro x restoring timer
    rw [execRestoreTimerExpiry_of_due running ((s.restoreTimerDue_iff r).2 ⟨restoring, x, timer⟩)]
    rfl
  · intro early
    refine execRestoreTimerExpiry_of_not_due fun due => ?_
    obtain ⟨restoring, x, timer⟩ := (s.restoreTimerDue_iff r).1 due
    rcases early with other | absent | ⟨y, toCome⟩
    · exact other restoring
    · simp [absent] at timer
    · simp [toCome] at timer
  · intro restoring
    rw [execClearRestore_of_ref asks body, State.clearRestoring, if_pos restoring, State.ref_becomeAvailable_same]
    rfl
  · intro other
    rw [execClearRestore_of_ref asks body, State.clearRestoring, if_neg other]
  · intro s f n asks body least most
    rw [exec, execClearRestore, takeRequest_of_asks _ _ s 3 f asks rfl, serveClearRestore, body,
      serveOneReference_of_outside least most, State.sendReply_refuse]

end Sys2Proof.Machine

/-!
SUPPORT. CONFIGURE REFERENCE: the bytes of its body, the configuration it stores, its checks, and its effect.
-/

namespace Sys2Proof.Machine

open Sys2Proof

/-! ## The checks -/

theorem needsHome_iff (kind : Nat) : needsHome kind = true ↔ kind = 1 ∨ kind = 4 := by
  simp [needsHome]

theorem outsideOrPresent_iff (n limit : Nat) : outsideOrPresent n limit = true ↔ limit ≤ n ∧ n ≠ 255 := by
  simp [outsideOrPresent]

theorem configureReferenceBadIndex_iff (body : List Byte) :
    configureReferenceBadIndex body = true
      ↔ 40 ≤ byteAt body 0 ∨ ((byteAt body 1 = 1 ∨ byteAt body 1 = 4) ∧ 32 ≤ byteAt body 2 ∧ byteAt body 2 ≠ 255)
        ∨ (48 ≤ byteAt body 3 ∧ byteAt body 3 ≠ 255) := by
  simp [configureReferenceBadIndex, needsHome_iff, outsideOrPresent_iff, or_assoc]

theorem configureReferenceBadValue_iff (body : List Byte) :
    configureReferenceBadValue body = true
      ↔ 4 < byteAt body 1 ∨ ((byteAt body 1 = 1 ∨ byteAt body 1 = 4) ∧ byteAt body 2 = 255)
        ∨ (byteAt body 1 ≠ 4 ∧ 1 < byteAt body 4)
        ∨ gradeValid (byteAt body 5) = false ∨ 1 < byteAt body 6 ∨ gradeValid (byteAt body 7) = false
        ∨ 127 < byteAt body 22 := by
  simp [configureReferenceBadValue, needsHome_iff, or_assoc]

theorem State.users_eq_nil_iff (s : State) (r : RefNo) :
    s.users r = [] ↔ ∀ h : ShelfNo, (s.shelf h).selected ≠ some r := by
  simp [State.users, mem_allShelves]

/-! ## The body -/

/-- The numbers a CONFIGURE REFERENCE carries, in the order of its body (R170). -/
structure RefRequest where
  ref : Nat
  kind : Nat
  home : Nat
  slot : Nat
  source : Nat
  fixed : Nat
  plan : Nat
  stale : Nat
  gate : Nat
  shift : Nat
  pull : Nat
  hysteresis : Nat
  fail : Nat
  restore : Nat
  age : Nat
  mask : Nat

/-- The body that carries them. -/
def RefRequest.body (q : RefRequest) : List Byte :=
  put8 q.ref ++ put8 q.kind ++ put8 q.home ++ put8 q.slot ++ put8 q.source ++ put8 q.fixed ++ put8 q.plan
    ++ put8 q.stale ++ put8 q.gate ++ put8 q.shift ++ put32 q.pull ++ put32 q.hysteresis ++ put8 q.fail ++ put16 q.restore
    ++ put8 q.age ++ put8 q.mask

/-- Each number fits its field of the body. -/
structure RefRequest.Fits (q : RefRequest) : Prop where
  ref : q.ref ≤ 255
  kind : q.kind ≤ 255
  home : q.home ≤ 255
  slot : q.slot ≤ 255
  source : q.source ≤ 255
  fixed : q.fixed ≤ 255
  plan : q.plan ≤ 255
  stale : q.stale ≤ 255
  gate : q.gate ≤ 255
  shift : q.shift ≤ 255
  pull : q.pull < 4294967296
  hysteresis : q.hysteresis < 4294967296
  fail : q.fail ≤ 255
  restore : q.restore ≤ 65535
  age : q.age ≤ 255
  mask : q.mask ≤ 255

@[simp] theorem RefRequest.length_body (q : RefRequest) : q.body.length = 23 := by
  simp [RefRequest.body, put8, put16, put32]

/-- The bytes and fields of the body that the checks and the clamps read. -/
structure RefRequest.Reads (q : RefRequest) (body : List Byte) : Prop where
  ref : byteAt body 0 = q.ref
  kind : byteAt body 1 = q.kind
  home : byteAt body 2 = q.home
  slot : byteAt body 3 = q.slot
  source : byteAt body 4 = q.source
  fixed : byteAt body 5 = q.fixed
  plan : byteAt body 6 = q.plan
  stale : byteAt body 7 = q.stale
  gate : byteAt body 8 = q.gate
  shift : byteAt body 9 = q.shift
  pull : be32At body 10 = q.pull
  hysteresis : be32At body 14 = q.hysteresis
  fail : byteAt body 18 = q.fail
  restore : be16At body 19 = q.restore
  age : byteAt body 21 = q.age
  mask : byteAt body 22 = q.mask

theorem toNat_byte {n : Nat} (h : n ≤ 255) : (BitVec.ofNat 8 n).toNat = n := by
  rw [BitVec.toNat_ofNat]
  omega

theorem be16_of_put16 {n : Nat} (h : n ≤ 65535) :
    256 * (BitVec.ofNat 8 (n / 256)).toNat + (BitVec.ofNat 8 n).toNat = n := by
  simp only [BitVec.toNat_ofNat]
  omega

theorem be32_of_put32 {n : Nat} (h : n < 4294967296) :
    65536 * (256 * (BitVec.ofNat 8 (n / 65536 / 256)).toNat + (BitVec.ofNat 8 (n / 65536)).toNat)
      + (256 * (BitVec.ofNat 8 (n / 256)).toNat + (BitVec.ofNat 8 n).toNat) = n := by
  simp only [BitVec.toNat_ofNat]
  omega

theorem byteAt_cons_zero (b : Byte) (rest : List Byte) : byteAt (b :: rest) 0 = b.toNat := rfl

theorem byteAt_cons_succ (b : Byte) (rest : List Byte) (i : Nat) : byteAt (b :: rest) (i + 1) = byteAt rest i := rfl

/-- What is put into the body is read from it. -/
theorem RefRequest.Fits.reads {q : RefRequest} (fits : q.Fits) : q.Reads q.body := by
  constructor <;> simp only [RefRequest.body, put8, put16, put32, List.cons_append, List.nil_append, be32At, be16At,
    Nat.reduceAdd, byteAt_cons_zero, byteAt_cons_succ]
  case pull => exact be32_of_put32 fits.pull
  case hysteresis => exact be32_of_put32 fits.hysteresis
  case restore => exact be16_of_put16 fits.restore
  exacts [toNat_byte fits.ref, toNat_byte fits.kind, toNat_byte fits.home, toNat_byte fits.slot,
    toNat_byte fits.source, toNat_byte fits.fixed, toNat_byte fits.plan, toNat_byte fits.stale, toNat_byte fits.gate,
    toNat_byte fits.shift, toNat_byte fits.fail, toNat_byte fits.age, toNat_byte fits.mask]

/-- The request passes the index and value checks (R7, R9, R169). -/
structure RefRequest.Valid (q : RefRequest) : Prop where
  ref : q.ref < 40
  kind : q.kind ≤ 4
  home : q.kind = 1 ∨ q.kind = 4 → q.home < 32
  slot : q.slot < 48 ∨ q.slot = 255
  source : q.source ≤ 1 ∨ q.kind = 4
  fixed : gradeValid q.fixed = true
  plan : q.plan ≤ 1
  stale : gradeValid q.stale = true
  mask : q.mask ≤ 127

theorem RefRequest.Valid.goodIndex {q : RefRequest} {body : List Byte} (valid : q.Valid) (reads : q.Reads body) :
    configureReferenceBadIndex body = false := by
  rw [← Bool.not_eq_true, configureReferenceBadIndex_iff, reads.ref, reads.kind, reads.home, reads.slot]
  rintro (outside | ⟨needs, outside, -⟩ | ⟨outside, present⟩)
  · exact absurd valid.ref (by omega)
  · exact absurd (valid.home needs) (by omega)
  · exact absurd valid.slot (by omega)

theorem RefRequest.Valid.goodValue {q : RefRequest} {body : List Byte} (valid : q.Valid) (reads : q.Reads body) :
    configureReferenceBadValue body = false := by
  rw [← Bool.not_eq_true, configureReferenceBadValue_iff, reads.kind, reads.home, reads.source, reads.fixed, reads.plan,
    reads.stale, reads.mask]
  rintro (kind | ⟨needs, absent⟩ | ⟨kind, source⟩ | fixed | plan | stale | mask)
  · exact absurd valid.kind (by omega)
  · exact absurd (valid.home needs) (by omega)
  · exact absurd valid.source (by omega)
  · simp [valid.fixed] at fixed
  · exact absurd valid.plan (by omega)
  · simp [valid.stale] at stale
  · exact absurd valid.mask (by omega)

/-! ## The configuration stored -/

/-- The configuration an accepted request stores, completed and clamped (R6, R7). -/
def RefRequest.stored (q : RefRequest) : RefConfig where
  kind := if q.kind = 0 then .unused else if q.kind = 1 then .line else if q.kind = 2 then .ext
    else if q.kind = 3 then .sat else .feed
  homeShelf := if q.kind = 1 ∨ q.kind = 4 then some (Fin.ofNat 32 q.home) else none
  slot := if q.slot = 255 then none else some (Fin.ofNat 48 q.slot)
  gradeSource := if q.kind = 4 then .traced else if q.source = 0 then .message else .fixed
  fixedGrade := q.fixed
  codePlan := if q.plan = 0 then .a else .b
  staleGrade := q.stale
  gateLength := if q.gate < 2 then 1 else if q.gate < 4 then 2 else if q.gate < 8 then 4 else 8
  filterShift := min 4 q.shift
  pullLimit := max 400 (min 200000 q.pull)
  hysteresis := min (max 400 (min 200000 q.pull) / 2) q.hysteresis
  failDelay := min 100 q.fail
  restoreDelay := min 720 q.restore
  messageAgeLimit := max 1 (min 60 q.age)
  reportMask := BitVec.ofNat 7 q.mask

theorem RefKind.ofCode_of_le {n : Nat} (h : n ≤ 4) :
    RefKind.ofCode n = some (if n = 0 then .unused else if n = 1 then .line else if n = 2 then .ext
      else if n = 3 then .sat else .feed) := by
  interval_cases n <;> rfl

theorem GradeSource.ofCode_of_le {n : Nat} (h : n ≤ 1) :
    GradeSource.ofCode n = some (if n = 0 then .message else .fixed) := by
  interval_cases n <;> rfl

theorem PlanName.ofCode_of_le {n : Nat} (h : n ≤ 1) : PlanName.ofCode n = some (if n = 0 then .a else .b) := by
  interval_cases n <;> rfl

theorem optionShelf_of_lt {n : Nat} (h : n < 32) : optionShelf n = some (Fin.ofNat 32 n) := by
  simp [optionShelf, h, Fin.ext_iff, Nat.mod_eq_of_lt h]

theorem optionSlot_of_present {n : Nat} (h : n < 48 ∨ n = 255) :
    optionSlot n = if n = 255 then none else some (Fin.ofNat 48 n) := by
  rcases h with present | absent
  · have given : n ≠ 255 := by omega
    simp [optionSlot, present, given, Fin.ext_iff, Nat.mod_eq_of_lt present]
  · simp [optionSlot, absent]

theorem clampNat_zero (hi n : Nat) : clampNat 0 hi n = min hi n := Nat.zero_max _

theorem RefRequest.Reads.storedPullLimit {q : RefRequest} {body : List Byte} (reads : q.Reads body) :
    storedPullLimit body = max 400 (min 200000 q.pull) := by
  rw [Machine.storedPullLimit, reads.pull, clampNat]

theorem RefRequest.Valid.refConfigOf {q : RefRequest} {body : List Byte} (valid : q.Valid) (reads : q.Reads body) :
    refConfigOf body = q.stored := by
  have kind := RefKind.ofCode_of_le valid.kind
  have plan := PlanName.ofCode_of_le valid.plan
  have slot := optionSlot_of_present valid.slot
  have home : (if needsHome q.kind then optionShelf q.home else none)
      = if q.kind = 1 ∨ q.kind = 4 then some (Fin.ofNat 32 q.home) else none := by
    by_cases needs : q.kind = 1 ∨ q.kind = 4
    · rw [if_pos ((needsHome_iff _).2 needs), if_pos needs, optionShelf_of_lt (valid.home needs)]
    · rw [if_neg ((needsHome_iff _).not.2 needs), if_neg needs]
  have source : (if q.kind = 4 then GradeSource.traced else (GradeSource.ofCode q.source).getD .fixed)
      = if q.kind = 4 then .traced else if q.source = 0 then .message else .fixed := by
    by_cases feed : q.kind = 4
    · rw [if_pos feed, if_pos feed]
    · rw [GradeSource.ofCode_of_le (valid.source.resolve_right feed), Option.getD_some]
  have age : clampNat 1 60 q.age = max 1 (min 60 q.age) := rfl
  unfold Machine.refConfigOf RefRequest.stored
  simp only [reads.kind, reads.home, reads.slot, reads.source, reads.fixed, reads.plan, reads.stale, reads.gate,
    reads.shift, reads.hysteresis, reads.fail, reads.restore, reads.age, reads.mask, reads.storedPullLimit, kind, plan,
    slot, home, source, age, Option.getD_some, clampNat_zero, clampGate]

/-- CLAMPED as the statement lists it: a numeric field lies outside its range (R6). -/
def RefRequest.clamped (q : RefRequest) : Bool :=
  decide (q.gate ∉ [1, 2, 4, 8]) || decide (4 < q.shift) || decide (max 400 (min 200000 q.pull) ≠ q.pull)
    || decide (max 400 (min 200000 q.pull) / 2 < q.hysteresis) || decide (100 < q.fail) || decide (720 < q.restore)
    || decide (q.age = 0 ∨ 60 < q.age)

theorem bne_eq_decide_ne (a b : Nat) : (a != b) = decide (a ≠ b) := by
  by_cases h : a = b <;> simp [h]

/-- A gate length is stored as given exactly where it is one the part has (R6). -/
theorem storedGate_ne_iff (g : Nat) :
    (if g < 2 then 1 else if g < 4 then 2 else if g < 8 then 4 else 8) ≠ g ↔ g ∉ [1, 2, 4, 8] := by
  simp only [List.mem_cons, List.not_mem_nil, or_false]
  split_ifs <;> omega

theorem RefRequest.Valid.clamped {q : RefRequest} {body : List Byte} (valid : q.Valid) (reads : q.Reads body) :
    configureReferenceClamped body = q.clamped := by
  have shift : min 4 q.shift ≠ q.shift ↔ 4 < q.shift := by omega
  have fail : min 100 q.fail ≠ q.fail ↔ 100 < q.fail := by omega
  have restore : min 720 q.restore ≠ q.restore ↔ 720 < q.restore := by omega
  have age : max 1 (min 60 q.age) ≠ q.age ↔ q.age = 0 ∨ 60 < q.age := by omega
  have hysteresis (m : Nat) : min m q.hysteresis ≠ q.hysteresis ↔ m < q.hysteresis := by omega
  unfold configureReferenceClamped RefRequest.clamped
  simp only [valid.refConfigOf reads, RefRequest.stored, reads.gate, reads.shift, reads.pull, reads.hysteresis,
    reads.fail, reads.restore, reads.age, bne_eq_decide_ne, storedGate_ne_iff, shift, fail, restore, age, hysteresis]

/-! ## The effect -/

/-- The report of a reconfigured reference (R11). -/
def reconfigureReports (x : RefRecord) (r : RefNo) : List Report :=
  if x.run.availability = .failed then [] else [.refFailed r .reconfigured]

/-- CONFIGURE REFERENCE writes one record and one channel, leaves a pass pending and posts (R10, R11). -/
theorem State.reconfigure_eq (r : RefNo) (cfg : RefConfig) (s : State) :
    s.reconfigure r cfg = { s with
      refs := { s.refs with records := s.refs.records.set r ⟨cfg, (s.ref r).run.restart⟩ }
      monitor := { s.monitor with channels := s.monitor.channels.set r (s.chan r).restart }
      engine := { s.engine with passPending := true }
      queue := (s.reconfigure r cfg).queue } := by
  unfold State.reconfigure
  dsimp only
  split
  · rfl
  · exact State.post_same _ _

theorem Posts.of_refs {s t : State} (time : t.time = s.time) (shelves : t.engine.shelves = s.engine.shelves)
    (queue : t.queue = s.queue) : Posts [] { s with refs := t.refs } t :=
  SameMasks.posts_nil ⟨by unfold State.now; rw [time], fun _ => rfl, fun _ => by unfold State.shelf; rw [shelves]⟩ queue

/-- Its report passes the report mask that it has just stored. -/
theorem State.reconfigure_posts (r : RefNo) (cfg : RefConfig) (s : State) :
    Posts (reconfigureReports (s.ref r) r) { s with refs := (s.reconfigure r cfg).refs } (s.reconfigure r cfg) := by
  unfold State.reconfigure reconfigureReports
  dsimp only
  split
  · exact Posts.of_refs rfl rfl rfl
  · rw [State.post_refs]
    refine Posts.trans (a := []) ?_ (State.post_posts _ _)
    exact Posts.of_refs rfl rfl rfl

theorem serveConfigureReference_of_valid {q : RefRequest} {s : State} {r : RefNo} (valid : q.Valid) (fits : q.Fits)
    (ref : q.ref = r.val) (free : s.users r = []) :
    serveConfigureReference q.body s
      = accept (State.regrading (State.reconfigure r q.stored) s) q.clamped [] := by
  have reads := fits.reads
  have number : byteAt q.body 0 = r.val := reads.ref.trans ref
  simp [serveConfigureReference, valid.goodIndex reads, valid.goodValue reads, valid.refConfigOf reads,
    valid.clamped reads, number, free]

theorem serveConfigureReference_of_badIndex {body : List Byte} {s : State} (length : body.length = 23)
    (bad : configureReferenceBadIndex body = true) : serveConfigureReference body s = refuse s .badIndex [] := by
  simp [serveConfigureReference, length, bad]

theorem serveConfigureReference_of_badValue {body : List Byte} {s : State} (length : body.length = 23)
    (index : configureReferenceBadIndex body = false) (bad : configureReferenceBadValue body = true) :
    serveConfigureReference body s = refuse s .badValue [] := by
  simp [serveConfigureReference, length, index, bad]

theorem serveConfigureReference_of_inUse {body : List Byte} {s : State} {r : RefNo} (length : body.length = 23)
    (index : configureReferenceBadIndex body = false) (value : configureReferenceBadValue body = false)
    (ref : byteAt body 0 = r.val) (used : s.users r ≠ []) :
    serveConfigureReference body s = refuse s .inUse [] := by
  simp [serveConfigureReference, length, index, value, ref, used]

theorem execConfigureReference_of_asks {s : State} {f : Frame} (asks : s.asks 1 f) :
    exec .configureReference s = .next (State.sendReply f (serveConfigureReference f.body s)) := by
  rw [exec, execConfigureReference, takeRequest_of_asks _ _ s 1 f asks rfl]

/-- The state that an accepted CONFIGURE REFERENCE leaves (R10, R11): the record, the channel, the pass and the reports
written, and all else as it was. -/
theorem State.regrading_reconfigure (r : RefNo) (cfg : RefConfig) (s : State) :
    ∃ t : State, State.regrading (State.reconfigure r cfg) s = t
      ∧ t.ref r = ⟨cfg, (s.ref r).run.restart⟩ ∧ t.chan r = (s.chan r).restart
      ∧ t.engine = { s.engine with passPending := true }
      ∧ t.queue = (State.postAll (reconfigureReports (s.ref r) r ++ gradeReports s t) { s with refs := t.refs }).queue
      ∧ KeepsOtherRefs r s t
      ∧ t = { s with
          refs := { s.refs with records := t.refs.records }
          monitor := { s.monitor with channels := t.monitor.channels }
          engine := t.engine
          queue := t.queue } := by
  have handed := s.handOnGrades_shelfMove (s.reconfigure r cfg)
  have chan (q : RefNo) : (s.handOnGrades (s.reconfigure r cfg)).chan q = (s.reconfigure r cfg).chan q := by
    unfold State.chan; rw [handed.monitor]
  have posts := (s.reconfigure_posts r cfg).trans (s.handOnGrades_posts (s.reconfigure r cfg))
  refine ⟨s.handOnGrades (s.reconfigure r cfg), rfl, ?_, ?_, ?_, ?_, fun q e => ⟨?_, ?_⟩, ?_⟩
  · rw [handed.ref, State.ref_reconfigure, if_pos rfl]
  · rw [chan, State.chan_reconfigure, if_pos rfl]
  · rw [State.handOnGrades_eq, State.reconfigure_eq]
    rfl
  · rw [posts.queue, gradeReports_handOnGrades, State.handOnGrades_refs]
  · rw [handed.ref, State.ref_reconfigure, if_neg (Ne.symm e)]
  · rw [chan, State.chan_reconfigure, if_neg (Ne.symm e)]
  · rw [State.handOnGrades_eq, State.reconfigure_eq]

/-- An accepted CONFIGURE REFERENCE (R6, R7, R10, R11). -/
theorem execConfigureReference_of_valid {q : RefRequest} {s : State} {f : Frame} {r : RefNo} (fits : q.Fits)
    (valid : q.Valid) (asks : s.asks 1 f) (body : f.body = q.body) (ref : q.ref = r.val) (free : s.users r = []) :
    ∃ t : State, exec .configureReference s = .next (t.replying f .ok q.clamped [])
      ∧ t.ref r = ⟨q.stored, (s.ref r).run.restart⟩ ∧ t.chan r = (s.chan r).restart
      ∧ t.engine = { s.engine with passPending := true }
      ∧ t.queue = (State.postAll (reconfigureReports (s.ref r) r ++ gradeReports s t) { s with refs := t.refs }).queue
      ∧ KeepsOtherRefs r s t
      ∧ t = { s with
          refs := { s.refs with records := t.refs.records }
          monitor := { s.monitor with channels := t.monitor.channels }
          engine := t.engine
          queue := t.queue } := by
  obtain ⟨t, event, effect⟩ := s.regrading_reconfigure r q.stored
  refine ⟨t, ?_, effect⟩
  rw [execConfigureReference_of_asks asks, body, serveConfigureReference_of_valid valid fits ref free, event,
    State.sendReply_accept]

theorem gradeValid_le {g : Nat} (valid : gradeValid g = true) : g ≤ 255 := by
  simp only [gradeValid, Bool.or_eq_true, Bool.and_eq_true, decide_eq_true_eq, beq_iff_eq] at valid
  omega

/-- Settles O37: an accepted request by the effect of State.reconfigure on the configuration stored, a refused one by
the first check that it fails. -/
theorem configureReference : Obligations.ConfigureReference := by
  refine ⟨?_, fun s f asks length => ⟨?_, ?_, ?_⟩⟩
  · intro s f r kind home slot source fixed plan stale gate shift pull hysteresis fail restore age mask p asks body
      kinds homes homeByte slots sources fixedGrade plans staleGrade gateByte shiftByte pullWord hysteresisWord failByte
      restoreHalf ageByte masks free limit
    have fits : RefRequest.Fits ⟨r.val, kind, home, slot, source, fixed, plan, stale, gate, shift, pull, hysteresis,
        fail, restore, age, mask⟩ :=
      ⟨(by omega : r.val ≤ 255), (by omega : kind ≤ 255), homeByte, (by omega : slot ≤ 255), (by omega : source ≤ 255),
        gradeValid_le fixedGrade, (by omega : plan ≤ 255), gradeValid_le staleGrade, gateByte, shiftByte, pullWord,
        hysteresisWord, failByte, restoreHalf, ageByte, (by omega : mask ≤ 255)⟩
    obtain ⟨t, event, ref, chan, engine, queue, others, frame⟩ := execConfigureReference_of_valid fits
      ⟨r.isLt, kinds, homes, slots, sources.imp_right And.left, fixedGrade, plans, staleGrade, masks⟩ asks body rfl free
    subst limit
    refine ⟨t, event, ?_, ?_, ?_, ?_, ?_, ?_, ?_, ?_, ?_, engine, queue, others, frame⟩
    · rw [ref]
      rfl
    · rw [ref]
      rfl
    all_goals rw [chan]; rfl
  · intro bad
    rw [execConfigureReference_of_asks asks, serveConfigureReference_of_badIndex length
      ((configureReferenceBadIndex_iff _).2 bad), State.sendReply_refuse]
  · intro ref home slot bad
    have index : configureReferenceBadIndex f.body = false := by
      rw [← Bool.not_eq_true, configureReferenceBadIndex_iff]
      omega
    rw [execConfigureReference_of_asks asks, serveConfigureReference_of_badValue length index
      ((configureReferenceBadValue_iff _).2 bad), State.sendReply_refuse]
  · intro r ref kind home slot source fixed plan stale mask used
    have index : configureReferenceBadIndex f.body = false := by
      rw [← Bool.not_eq_true, configureReferenceBadIndex_iff]
      omega
    have value : configureReferenceBadValue f.body = false := by
      rw [← Bool.not_eq_true, configureReferenceBadValue_iff, fixed, stale]
      simp only [reduceCtorEq, false_or]
      omega
    obtain ⟨h, selected⟩ := used
    rw [execConfigureReference_of_asks asks, serveConfigureReference_of_inUse length index value ref
      fun none => (s.users_eq_nil_iff r).1 none h selected, State.sendReply_refuse]

end Sys2Proof.Machine

/-!
SUPPORT. READ REFERENCE and READ SHELF: the layout of the replies.
-/

namespace Sys2Proof.Machine

open Sys2Proof

theorem execReadReference_of_asks {s : State} {f : Frame} (asks : s.asks 2 f) :
    exec .readReference s = .next (State.sendReply f (serveReadReference f.body s)) := by
  rw [exec, execReadReference, takeRequest_of_asks _ _ s 2 f asks rfl]

theorem execReadShelf_of_asks {s : State} {f : Frame} (asks : s.asks 9 f) :
    exec .readShelf s = .next (State.sendReply f (serveReadShelf f.body s)) := by
  rw [exec, execReadShelf, takeRequest_of_asks _ _ s 9 f asks rfl]

theorem serveReadShelf_of_shelf (h : ShelfNo) (s : State) :
    serveReadShelf (put8 h.val) s = accept s false (s.shelfResults h) := by
  have byte : byteAt (put8 h.val) 0 = h.val := byteAt_put8 (by omega)
  simp [serveReadShelf, byte]

theorem serveReadShelf_of_outside {n : Nat} (least : 32 ≤ n) (most : n ≤ 255) (s : State) :
    serveReadShelf (put8 n) s = refuse s .badIndex [] := by
  simp [serveReadShelf, byteAt_put8 most, least]

theorem putOptionFlag_aged (o : Option Holdover) :
    putOptionFlag (o.map (·.aged)) = putOption8 (o.map fun x => if x.aged then 1 else 0) := by
  cases o <;> rfl

/-- Settles O38: the results are those of the record formats, in the order in which the meanings put them. -/
theorem readReferenceAndReadShelf : Obligations.ReadReferenceAndReadShelf := by
  refine fun s f => ⟨fun r asks body => ?_, fun n least most asks body => ?_, fun h asks body => ?_,
    fun n least most asks body => ?_⟩
  · rw [execReadReference_of_asks asks, body, serveReadReference, serveOneReference_of_ref, State.sendReply_accept]
    refine congrArg (fun rs => Host.Outcome.next (s.replying f .ok false rs)) ?_
    unfold State.referenceResults RefConfig.put State.remainingTimer
    rcases (s.ref r).run.failTimer with _ | n <;> simp only [List.append_assoc]
  · rw [execReadReference_of_asks asks, body, serveReadReference, serveOneReference_of_outside least most,
      State.sendReply_refuse]
  · rw [execReadShelf_of_asks asks, body, serveReadShelf_of_shelf, State.sendReply_accept]
    refine congrArg (fun rs => Host.Outcome.next (s.replying f .ok false rs)) ?_
    unfold State.shelfResults Shelf.putConfig
    simp only [putOptionFlag_aged, List.append_assoc]
  · rw [execReadShelf_of_asks asks, body, serveReadShelf_of_outside least most, State.sendReply_refuse]

end Sys2Proof.Machine

/-!
SUPPORT. The state after reset, block by block, and every invariant of it.
-/

namespace Sys2Proof.Machine

open Sys2Proof

/-! ## The tables after reset -/

theorem State.ref_reset (r : RefNo) : State.reset.ref r = ⟨.initial, .initial⟩ := State.ref_afterReset .pin r

theorem State.chan_reset (r : RefNo) : State.reset.chan r = .initial := State.chan_afterReset .pin r

theorem State.shelf_reset (h : ShelfNo) : State.reset.shelf h = .initial := by
  simp [State.shelf, State.reset, State.afterReset, Engine.initial]

theorem State.assembler_reset (n : SlotNo) : State.reset.assembler n = .hunt := by
  simp [State.assembler, State.reset, State.afterReset, QhReceiver.initial]

theorem State.dhSlot_reset (n : SlotNo) : State.reset.dhSlot n = ⟨none, none⟩ := by
  simp [State.dhSlot, State.reset, State.afterReset, DhTransmitter.initial]

theorem State.rotation_reset (j : Fin 16) : State.reset.dh.rotation[j] = none := by
  simp [State.reset, State.afterReset, DhTransmitter.initial]

/-! ## Grades and chains of a shelf that follows nothing -/

/-- A shelf that is not JOINED traces to grade 15 (R92). -/
theorem State.tracedGrade_of_not_joined {s : State} {h : ShelfNo} (away : (s.shelf h).timing = none) :
    s.tracedGrade h = 15 := by
  simp [State.tracedGrade, Config.chainFuel, State.tracedFrom, away]

/-- The chain of a shelf without a selected reference is the shelf alone (R95). -/
theorem State.chain_of_unselected {s : State} {h : ShelfNo} (free : (s.shelf h).selected = none) : s.chain h = [h] := by
  simp [State.chain, Config.chainFuel, State.chainFrom, State.nextOnChain, free]

theorem State.depth_of_unselected {s : State} {h : ShelfNo} (free : (s.shelf h).selected = none) : s.depth h = 0 := by
  simp [State.depth, State.chain_of_unselected free]

theorem State.timing_reset (h : ShelfNo) : (State.reset.shelf h).timing = none := by
  rw [State.shelf_reset]
  rfl

theorem State.selected_reset (h : ShelfNo) : (State.reset.shelf h).selected = none := by
  rw [Shelf.selected, State.timing_reset, Option.bind_none]

/-- An UNUSED reference has its fixed grade, 15 after reset (R68). -/
theorem State.effectiveGrade_reset (r : RefNo) : State.reset.effectiveGrade r = 15 := by
  simp [State.effectiveGrade, State.localGrade, State.ref_reset, RefConfig.initial, RefRunning.initial]

/-- Settles O5, by the values after reset of the tables and of the single fields. -/
theorem resetStateHoldsTheSpecsValues : Obligations.ResetStateHoldsTheSpecsValues := by
  refine ⟨rfl, rfl, rfl, rfl, fun r => ?_, State.ref_reset, State.effectiveGrade_reset, rfl, rfl, rfl, rfl, rfl, rfl,
    rfl, State.assembler_reset, rfl, rfl, rfl, State.shelf_reset, rfl, rfl, rfl, rfl, rfl, rfl, rfl, fun n => ?_,
    State.rotation_reset, rfl, rfl, rfl, rfl, rfl⟩
  · rw [State.chan_reset]
    exact ⟨rfl, rfl, rfl, rfl, rfl, rfl, rfl⟩
  · rw [State.dhSlot_reset]

/-! ## Every invariant holds after reset -/

theorem State.queueSound_reset : State.reset.queueSound := by decide

theorem State.clocksSound_reset : State.reset.clocksSound := by
  refine ⟨by decide, by decide, by decide, by decide, fun n => ?_, fun j => ?_⟩
  · rw [show State.reset.dh.slots[n] = ⟨none, none⟩ from State.dhSlot_reset n]
    rfl
  · rw [State.rotation_reset]
    rfl

theorem State.inputsSound_reset : State.reset.inputsSound := by
  refine ⟨⟨fun n => ?_, by decide⟩, by decide⟩
  rw [show State.reset.qh.assemblers[n] = .hunt from State.assembler_reset n]
  rfl

theorem State.channelsSound_reset : State.reset.channelsSound := by
  intro r
  rw [State.ref_reset, State.chan_reset]
  decide

theorem State.referencesSound_reset : State.reset.referencesSound :=
  (State.referencesSound_iff _).1 (State.afterReset_referencesSound .pin)

theorem CodePlan.initial_sound : CodePlan.initial.sound := by decide

theorem State.gradesSound_reset : State.reset.gradesSound := by
  refine ⟨fun r => ?_, CodePlan.initial_sound, CodePlan.initial_sound, fun h => ?_, fun r => ?_, fun h => ?_⟩
  · rw [State.ref_reset]
    decide
  · rw [State.shelf_reset]
    decide
  · rw [State.effectiveGrade_reset]
    rfl
  · rw [State.tracedGrade_of_not_joined (State.timing_reset h)]
    rfl

theorem State.selectionsSound_reset : State.reset.selectionsSound := by
  intro h
  rw [State.selectionSound, State.selected_reset, State.shelf_reset]
  exact ⟨rfl, rfl⟩

theorem State.chainsSound_reset : State.reset.chainsSound := by
  refine ⟨by decide, by decide, fun h => ?_, by decide⟩
  rw [State.depth_of_unselected (State.selected_reset h)]
  exact Nat.zero_le _

/-- Settles O60, invariant by invariant. -/
theorem resetMeetsEveryInvariant : Obligations.ResetMeetsEveryInvariant :=
  ⟨State.queueSound_reset, State.clocksSound_reset, State.inputsSound_reset, State.channelsSound_reset,
    State.referencesSound_reset, State.gradesSound_reset, State.selectionsSound_reset, State.chainsSound_reset⟩

end Sys2Proof.Machine

/-!
SUPPORT. What a step keeps of the clocks, the channels, both highways and the Message Port: the layer under the
invariants of those blocks.
-/

namespace Sys2Proof.Machine

open Sys2Proof

/-! ## What leaves these blocks as they were -/

/-- The clocks, the channels, both highways, the Message Port and the configuration of every reference are as they
were. -/
structure KeepsHardware (s t : State) : Prop where
  time : t.time = s.time
  monitor : t.monitor = s.monitor
  qh : t.qh = s.qh
  dh : t.dh = s.dh
  port : t.port = s.port
  cfg : ∀ r : RefNo, (t.ref r).cfg = (s.ref r).cfg

theorem KeepsHardware.refl (s : State) : KeepsHardware s s := ⟨rfl, rfl, rfl, rfl, rfl, fun _ => rfl⟩

theorem KeepsHardware.trans {s t u : State} (a : KeepsHardware s t) (b : KeepsHardware t u) : KeepsHardware s u where
  time := b.time.trans a.time
  monitor := b.monitor.trans a.monitor
  qh := b.qh.trans a.qh
  dh := b.dh.trans a.dh
  port := b.port.trans a.port
  cfg r := (b.cfg r).trans (a.cfg r)

theorem RefMove.keepsHardware {r : RefNo} {s t : State} (a : RefMove r s t) : KeepsHardware s t where
  time := a.time
  monitor := a.monitor
  qh := a.qh
  dh := a.dh
  port := a.port
  cfg q := by
    by_cases e : q = r
    · rw [e, a.refCfg]
    · rw [a.others q e]

theorem ShelfMove.keepsHardware {s t : State} (a : ShelfMove s t) : KeepsHardware s t := (a.refMove 0).keepsHardware

theorem State.setRun_keepsHardware (r : RefNo) (f : RefRunning → RefRunning) (s : State) :
    KeepsHardware s (s.setRun r f) where
  time := rfl
  monitor := rfl
  qh := rfl
  dh := rfl
  port := rfl
  cfg q := by
    by_cases e : q = r
    · rw [e, State.ref_setRun_same]
    · rw [State.ref_setRun_of_ne f s e]

theorem State.regrading_keepsHardware {f : State → State} {s : State} (h : KeepsHardware s (f s)) :
    KeepsHardware s (State.regrading f s) :=
  h.trans (State.handOnGrades_shelfMove s (f s)).keepsHardware

theorem State.setShelf_keepsHardware (h : ShelfNo) (x : Shelf) (s : State) : KeepsHardware s (s.setShelf h x) :=
  ⟨rfl, rfl, rfl, rfl, rfl, fun _ => rfl⟩

theorem State.clearRestoring_keepsHardware (r : RefNo) (s : State) : KeepsHardware s (s.clearRestoring r) := by
  unfold State.clearRestoring
  split
  · exact (s.becomeAvailable_refMove r .cleared).keepsHardware
  · exact .refl s

theorem State.setPlan_keepsHardware (p : PlanName) (x : CodePlan) (s : State) : KeepsHardware s (s.setPlan p x) := by
  cases p <;> exact ⟨rfl, rfl, rfl, rfl, rfl, fun _ => rfl⟩

theorem State.setCardDefect_keepsHardware (r : RefNo) (d : Bool) (s : State) : KeepsHardware s (s.setCardDefect r d) :=
  (s.setRun_keepsHardware r _).trans (State.takeDefect_refMove s r _).keepsHardware

theorem State.takeCode_keepsHardware (r : RefNo) (c : Code) (s : State) : KeepsHardware s (s.takeCode r c) := by
  unfold State.takeCode
  split
  · exact s.setRun_keepsHardware r _
  · exact .refl s

theorem State.goStale_keepsHardware (r : RefNo) (s : State) : KeepsHardware s (s.goStale r) :=
  ((s.setRun_keepsHardware r _).trans (State.post_shelfMove _ _).keepsHardware).trans
    (State.setCardDefect_keepsHardware r false _)

theorem State.deliverStatus_keepsHardware (r : RefNo) (c : Code) (d : Bool) (s : State) :
    KeepsHardware s (s.deliverStatus r c d) := by
  have renewed : KeepsHardware s (s.renewAge r) := s.setRun_keepsHardware r _
  have flagged := renewed.trans (State.regrading_keepsHardware (State.setCardDefect_keepsHardware r d _))
  exact flagged.trans (State.regrading_keepsHardware (State.takeCode_keepsHardware r c _))

theorem State.deliverReport_keepsHardware (h : ShelfNo) (rep : CardReport) (s : State) :
    KeepsHardware s (s.deliverReport h rep) :=
  (s.setShelf_keepsHardware h _).trans
    (State.regrading_keepsHardware (State.takeReport_shelfMove h rep _).keepsHardware)

theorem State.deliver_keepsHardware (d : Delivery) (s : State) : KeepsHardware s (s.deliver d) := by
  cases d with
  | status r c defect => exact s.deliverStatus_keepsHardware r c defect
  | card h rep => exact s.deliverReport_keepsHardware h rep

theorem State.goSilent_keepsHardware (h : ShelfNo) (s : State) : KeepsHardware s (s.goSilent h) := by
  have silent := s.setShelf_keepsHardware h { s.shelf h with silence := none }
  unfold State.goSilent
  dsimp only
  split
  · exact silent
  · exact silent.trans (State.vacate_shelfMove h _ _).keepsHardware
  · exact silent.trans (State.vacate_shelfMove h _ _).keepsHardware

theorem State.reconfigureShelf_keepsHardware (h : ShelfNo) (cfg : ShelfConfig) (list : List Candidate) (s : State) :
    KeepsHardware s (s.reconfigureShelf h cfg list) :=
  (s.setShelf_keepsHardware h _).trans ((((State.dropUnoffered_shelfMove h _).trans
    (State.resettleAging_shelfMove h _ _)).trans (State.settleShelf_shelfMove h _)).trans
    (State.leavePassPending_shelfMove _)).keepsHardware

theorem State.setLimits_keepsHardware (depth persistence silence : Nat) (s : State) :
    KeepsHardware s (s.setLimits depth persistence silence) := ⟨rfl, rfl, rfl, rfl, rfl, fun _ => rfl⟩

theorem KeepsHardware.of_refs {s t : State} (time : t.time = s.time) (monitor : t.monitor = s.monitor)
    (qh : t.qh = s.qh) (dh : t.dh = s.dh) (port : t.port = s.port) (refs : t.refs = s.refs) : KeepsHardware s t :=
  ⟨time, monitor, qh, dh, port, fun r => by rw [State.ref_congr refs]⟩

theorem State.setHolds_keepsHardware (named : ShelfNo → Bool) (on : Bool) (s : State) :
    KeepsHardware s (s.setHolds named on) := .of_refs (by simp) (by simp) (by simp) (by simp) (by simp) (by simp)

theorem State.endPass_keepsHardware (s : State) : KeepsHardware s s.endPass := by
  have written (e : Engine) : KeepsHardware s { s with engine := e } := .of_refs rfl rfl rfl rfl rfl rfl
  unfold State.endPass
  split_ifs
  · exact written _
  · exact written _
  · exact (written _).trans (State.post_shelfMove _ _).keepsHardware

theorem State.clearOverrides_keepsHardware (s : State) : KeepsHardware s s.clearOverrides :=
  ⟨by simp, by simp, by simp, by simp, by simp, fun r => by rw [State.ref_clearOverrides]⟩

/-! ## Every block that is sound stays sound -/

/-- The gate length of a reference is one the part has and its channel is sound: what the invariant of the channels
says of one of them. -/
def State.channelSound (s : State) (r : RefNo) : Prop :=
  (s.ref r).cfg.gateLength ∈ [1, 2, 4, 8] ∧ (s.chan r).sound (s.ref r).cfg.gateLength

/-- Each of these blocks is sound after where it was sound before. -/
structure KeepsSound (s t : State) : Prop where
  time : s.time.sound → t.time.sound
  dh : s.dh.sound → t.dh.sound
  qh : s.qh.sound → t.qh.sound
  port : s.port.sound → t.port.sound
  channel : ∀ r : RefNo, s.channelSound r → t.channelSound r

theorem KeepsSound.trans {s t u : State} (a : KeepsSound s t) (b : KeepsSound t u) : KeepsSound s u where
  time := b.time ∘ a.time
  dh := b.dh ∘ a.dh
  qh := b.qh ∘ a.qh
  port := b.port ∘ a.port
  channel r := b.channel r ∘ a.channel r

theorem KeepsHardware.channelSound {s t : State} (a : KeepsHardware s t) {r : RefNo} (h : s.channelSound r) :
    t.channelSound r := by
  simpa only [State.channelSound, State.chan, a.monitor, a.cfg] using h

theorem KeepsHardware.keepsSound {s t : State} (a : KeepsHardware s t) : KeepsSound s t where
  time h := by rwa [a.time]
  dh h := by rwa [a.dh]
  qh h := by rwa [a.qh]
  port h := by rwa [a.port]
  channel _ := a.channelSound

theorem KeepsSound.refl (s : State) : KeepsSound s s := (KeepsHardware.refl s).keepsSound

theorem State.writeTime_keepsSound {s : State} {x : TimeBase} (h : s.time.sound → x.sound) :
    KeepsSound s { s with time := x } := ⟨h, id, id, id, fun _ => id⟩

theorem State.writeDh_keepsSound {s : State} {x : DhTransmitter} (h : s.dh.sound → x.sound) :
    KeepsSound s { s with dh := x } := ⟨id, h, id, id, fun _ => id⟩

theorem State.writeQh_keepsSound {s : State} {x : QhReceiver} (h : s.qh.sound → x.sound) :
    KeepsSound s { s with qh := x } := ⟨id, id, h, id, fun _ => id⟩

theorem State.writePort_keepsSound {s : State} {x : Port} (h : s.port.sound → x.sound) :
    KeepsSound s { s with port := x } := ⟨id, id, id, h, fun _ => id⟩

/-- Resets leave the values after reset in each of these blocks. -/
theorem KeepsHardware.keepsSound_of_reset {s t : State} (a : KeepsHardware State.reset t) : KeepsSound s t where
  time _ := a.keepsSound.time State.clocksSound_reset.1
  dh _ := a.keepsSound.dh State.clocksSound_reset.2
  qh _ := a.keepsSound.qh State.inputsSound_reset.1
  port _ := a.keepsSound.port State.inputsSound_reset.2
  channel r _ := a.keepsSound.channel r (State.channelsSound_reset r)

theorem State.resetBy_keepsSound (c : ResetCause) (s : State) : KeepsSound s (s.resetBy c) :=
  KeepsHardware.keepsSound_of_reset ⟨rfl, rfl, rfl, rfl, rfl, fun _ => rfl⟩

theorem State.holdInReset_keepsSound (s : State) : KeepsSound s s.holdInReset :=
  KeepsHardware.keepsSound_of_reset ⟨rfl, rfl, rfl, rfl, rfl, fun _ => rfl⟩

end Sys2Proof.Machine

/-!
SUPPORT. The clocks and the outgoing highway: each of their events keeps them sound.
-/

namespace Sys2Proof.Machine

open Sys2Proof

/-! ## The clocks -/

theorem State.tickEventDue_iff (s : State) :
    s.tickEventDue = true ↔ 2000000 ≤ s.time.subTicks ∧ s.time.secondDue = false := by
  simp only [State.tickEventDue, Bool.and_eq_true, decide_eq_true_eq, Bool.not_eq_true']
  rfl

/-- A tick event with no second event due: office time is still a tenth of the tick events (R22, R23). -/
theorem TimeBase.sound.tick {x : TimeBase} (h : x.sound) (free : x.secondDue = false) : x.tick.sound := by
  obtain ⟨-, -, office⟩ := h
  simp only [free, Bool.false_eq_true, if_false] at office
  refine ⟨Nat.zero_le _, fun due => ?_, ?_⟩
  · simpa [TimeBase.tick] using due
  · by_cases tenth : (x.tickCount + 1) % 10 = 0
    · simp only [TimeBase.tick, tenth, beq_self_eq_true, if_true]
      omega
    · simp only [TimeBase.tick, beq_iff_eq, tenth, if_false]
      omega

/-- The second event that was due brings office time up to a tenth of the tick events (R23). -/
theorem TimeBase.sound.second {x : TimeBase} (h : x.sound) (due : x.secondDue = true) : x.second.sound := by
  obtain ⟨sub, tenth, office⟩ := h
  obtain ⟨multiple, positive⟩ := tenth due
  simp only [due, if_true] at office
  refine ⟨sub, nofun, ?_⟩
  simp only [TimeBase.second, capTime, Bool.false_eq_true, if_false]
  omega

/-- A measurement tick before the next tick event is due (R22). -/
theorem TimeBase.sound.pass {x : TimeBase} (h : x.sound) (early : x.subTicks < 2000000) :
    ({ x with subTicks := x.subTicks + 1 } : TimeBase).sound := by
  obtain ⟨-, tenth, office⟩ := h
  exact ⟨early, tenth, office⟩

/-! ## The slots of the outgoing highway -/

/-- A slot without a block is sound. -/
theorem DhSlot.sound_of_free (length : Nat) (w : Option Byte) : DhSlot.sound length ⟨none, w⟩ = true := rfl

theorem DhSlot.sound_of_block_iff (length : Nat) (b : DhBlock) (w : Option Byte) :
    DhSlot.sound length ⟨some b, w⟩ = true
      ↔ b.words.length = length ∧ 1 ≤ b.sent ∧ (b.sent < length ∨ b.sent = length ∧ w.isSome = true) := by
  simp [DhSlot.sound, and_assoc]

/-- Reaching a bit sends at most the next word of the block in progress, or ends a block that has been sent (R136). -/
theorem DhSlot.sound.atBit {length : Nat} {x : DhSlot} (first bit : Nat) (h : x.sound length = true) :
    (x.atBit first bit).sound length = true := by
  rcases x with ⟨_ | b, _ | w⟩
  · exact h
  · exact h
  · obtain ⟨words, sent, rest⟩ := (DhSlot.sound_of_block_iff length b none).1 h
    unfold DhSlot.atBit
    dsimp only
    split
    · refine (DhSlot.sound_of_block_iff _ _ _).2 ⟨words, Nat.le_add_left .., ?_⟩
      simp only [Option.isSome_none, Option.isSome_some, Bool.false_eq_true, and_false, and_true, or_false] at rest ⊢
      omega
    · exact h
  · unfold DhSlot.atBit
    dsimp only
    split
    · rfl
    · exact h

/-- A new frame drops the blocks that are sent and goes on with the others (R136). -/
theorem DhSlot.sound.nextFrame {length : Nat} {x : DhSlot} (h : x.sound length = true) :
    x.nextFrame.sound length = true := by
  rcases x with ⟨_ | b, w⟩
  · rfl
  · obtain ⟨words, sent, -⟩ := (DhSlot.sound_of_block_iff length b w).1 h
    unfold DhSlot.nextFrame
    dsimp only
    split
    · rename_i unsent
      exact (DhSlot.sound_of_block_iff _ _ _).2 ⟨words, sent, .inl (words ▸ unsent)⟩
    · rfl

/-- The words of the block of a slot: five of a command block, four of a quality block (R137, R140). -/
def blockLength (n : SlotNo) : Nat := if n.val < 32 then 5 else 4

theorem blockLength_pos (n : SlotNo) : 1 < blockLength n := by
  unfold blockLength
  split <;> decide

theorem DhSlot.sound_of_start (n : SlotNo) (words : List Byte) (h : words.length = blockLength n) :
    DhSlot.sound (blockLength n) ⟨some ⟨words, 1⟩, words.head?⟩ = true :=
  (DhSlot.sound_of_block_iff _ _ _).2 ⟨h, Nat.le_refl 1, .inl (blockLength_pos n)⟩

/-! ## The outgoing highway -/

/-- The slots and the rotation of a sound transmitter. -/
def SlotsSound (slots : Vector DhSlot 48) : Prop := ∀ n : SlotNo, slots[n].sound (blockLength n) = true

def RotationsSound (rotation : Vector (Option RefNo) 16) : Prop := ∀ j : Fin 16, rotationSound j rotation[j] = true

theorem DhTransmitter.sound_iff (d : DhTransmitter) :
    d.sound ↔
      d.ticks ≤ 2500 ∧ (1 ≤ d.position ∧ d.position ≤ 384) ∧ SlotsSound d.slots ∧ RotationsSound d.rotation := by
  simp only [DhTransmitter.sound, and_assoc]
  rfl

theorem SlotsSound.ofFn {f : SlotNo → DhSlot} (h : ∀ n, (f n).sound (blockLength n) = true) :
    SlotsSound (Vector.ofFn f) := by
  intro n
  simpa using h n

theorem SlotsSound.set {slots : Vector DhSlot 48} (h : SlotsSound slots) (n : SlotNo) {x : DhSlot}
    (sound : x.sound (blockLength n) = true) : SlotsSound (slots.set n x) := by
  intro m
  by_cases e : n = m
  · subst e; simpa using sound
  · have other : n.val ≠ m.val := fun c => e (Fin.ext c)
    simpa [other] using h m

theorem RotationsSound.set {rotation : Vector (Option RefNo) 16} (h : RotationsSound rotation) (j : Fin 16) {r : RefNo}
    (residue : r.val % 16 = j.val) : RotationsSound (rotation.set j (some r)) := by
  intro i
  by_cases e : j = i
  · subst e; simpa [rotationSound] using residue
  · have other : j.val ≠ i.val := fun c => e (Fin.ext c)
    simpa [other] using h i

theorem frameBit_mem (n : Nat) : 1 ≤ frameBit n ∧ frameBit n ≤ 384 := by
  unfold frameBit Config.bitsPerFrame Config.ticksPerFrame
  omega

theorem DhTransmitter.sound.afterTick {d : DhTransmitter} (h : d.sound) (early : d.ticks < 2500) :
    d.afterTick.sound := by
  obtain ⟨-, position, slots, rotation⟩ := d.sound_iff.1 h
  refine (DhTransmitter.sound_iff _).2 ⟨early, ?_, SlotsSound.ofFn fun n => DhSlot.sound.atBit _ _ (slots n), rotation⟩
  show 1 ≤ d.nextPosition ∧ d.nextPosition ≤ 384
  unfold DhTransmitter.nextPosition
  split
  · exact frameBit_mem _
  · exact position

theorem DhTransmitter.sound.startFrame {d : DhTransmitter} (h : d.sound) : d.startFrame.sound := by
  obtain ⟨-, -, slots, rotation⟩ := d.sound_iff.1 h
  refine (DhTransmitter.sound_iff _).2 ⟨Nat.zero_le _, ⟨Nat.le_refl 1, (by decide : 1 ≤ 384)⟩,
    SlotsSound.ofFn fun n => ?_, rotation⟩
  split
  · exact DhSlot.sound.atBit _ _ (DhSlot.sound.nextFrame (slots n))
  · rfl

theorem State.setDhSlot_keepsSound (n : SlotNo) {x : DhSlot} (s : State) (sound : x.sound (blockLength n) = true) :
    KeepsSound s (s.setDhSlot n x) :=
  State.writeDh_keepsSound fun h => by
    obtain ⟨ticks, position, slots, rotation⟩ := s.dh.sound_iff.1 h
    exact (DhTransmitter.sound_iff _).2 ⟨ticks, position, slots.set n sound, rotation⟩

theorem State.startBlock_keepsSound (n : SlotNo) {words : List Byte} (s : State) (h : words.length = blockLength n) :
    KeepsSound s (s.startBlock n words) := s.setDhSlot_keepsSound n (DhSlot.sound_of_start n words h)

theorem State.setRotation_keepsSound (j : Fin 16) {r : RefNo} (s : State) (residue : r.val % 16 = j.val) :
    KeepsSound s (s.setRotation j r) :=
  State.writeDh_keepsSound fun h => by
    obtain ⟨ticks, position, slots, rotation⟩ := s.dh.sound_iff.1 h
    exact (DhTransmitter.sound_iff _).2 ⟨ticks, position, slots, rotation.set j residue⟩

theorem length_outgoingBlock (tag : Nat) (rest : List Nat) :
    (outgoingBlock (tag :: rest)).length = rest.length + 2 := by
  simp [outgoingBlock]

theorem State.length_commandBlock (s : State) (h : ShelfNo) :
    (s.commandBlock h).length = blockLength (commandSlot h) := by
  simp [State.commandBlock, length_outgoingBlock, blockLength, commandSlot]

theorem State.length_qualityBlock (s : State) (r : RefNo) (j : Fin 16) :
    (s.qualityBlock r).length = blockLength (qualitySlot j) := by
  simp [State.qualityBlock, length_outgoingBlock, blockLength, qualitySlot]

/-- A subject is a reference of its slot's group (R139). -/
theorem State.qualitySubject_mem {s : State} {j : Fin 16} {r : RefNo} (h : s.qualitySubject j = some r) :
    r ∈ s.qualityGroup j := by
  unfold State.qualitySubject at h
  split at h
  · split at h
    · rename_i found
      exact Option.some.inj h ▸ List.mem_of_find?_eq_some found
    · exact List.mem_of_mem_head? h
  · exact List.mem_of_mem_head? h

theorem State.qualitySubject_residue {s : State} {j : Fin 16} {r : RefNo} (h : s.qualitySubject j = some r) :
    r.val % 16 = j.val := by
  have member := State.qualitySubject_mem h
  simp only [State.qualityGroup, List.mem_filter, Bool.and_eq_true, decide_eq_true_eq] at member
  exact member.2.1

theorem State.startQuality_keepsSound (j : Fin 16) (s : State) : KeepsSound s (s.startQuality j) := by
  unfold State.startQuality
  split
  · rename_i r subject
    exact (s.startBlock_keepsSound _ (s.length_qualityBlock r j)).trans
      (State.setRotation_keepsSound j _ (State.qualitySubject_residue subject))
  · exact s.setDhSlot_keepsSound _ rfl

/-! ## Their events -/

theorem execTickEvent_keepsSound (s : State) : AnswersOnly (KeepsSound s) (execTickEvent s) :=
  eventIf_answersOnly (.refl s) fun due =>
    State.writeTime_keepsSound fun h => h.tick (s.tickEventDue_iff.1 due).2

theorem State.secondStep_keepsSound {s : State} (due : s.time.secondDue = true) : KeepsSound s s.secondStep := by
  obtain ⟨monitor, port, -, reached⟩ := s.secondStep_reads
  have timed : KeepsSound s { s with time := s.time.second } := State.writeTime_keepsSound fun h => h.second due
  refine timed.trans (KeepsHardware.keepsSound ⟨rfl, monitor, rfl, rfl, port, fun r => ?_⟩)
  rw [reached]
  rfl

theorem execCommandBlockStart_keepsSound (slot : Nat) (s : State) :
    AnswersOnly (KeepsSound s) (execCommandBlockStart slot s) := by
  unfold execCommandBlockStart
  split
  · exact eventIf_answersOnly (.refl s) fun _ => s.startBlock_keepsSound _ (s.length_commandBlock _)
  · exact answersOnly_fault _ _

theorem execQualityBlockStart_keepsSound (slot : Nat) (s : State) :
    AnswersOnly (KeepsSound s) (execQualityBlockStart slot s) := by
  unfold execQualityBlockStart
  split
  · exact eventIf_answersOnly (.refl s) fun _ => s.startQuality_keepsSound _
  · exact answersOnly_fault _ _

end Sys2Proof.Machine

/-!
SUPPORT. The Quality Highway Receiver and the Message Port: each of their events keeps them sound.
-/

namespace Sys2Proof.Machine

open Sys2Proof

/-! ## The Quality Highway Receiver -/

/-- QhReceiver.sound with its parts named. -/
structure QhReceiver.Sound (q : QhReceiver) : Prop where
  assemblers : ∀ n : SlotNo, (q.assemblers[n]).sound = true
  missing : q.missing ≤ 8
  framing : ∀ f, q.framing = some f → f.sound q.missing = true
  checkErrors : q.checkErrors ≤ 65535
  markErrors : q.markErrors ≤ 65535
  misroutes : q.misroutes ≤ 65535

theorem QhReceiver.sound_iff (q : QhReceiver) : q.Sound ↔ q.sound := by
  have each : (∀ f, q.framing = some f → f.sound q.missing = true)
      ↔ q.framing.all (Framing.sound q.missing) = true := by
    rcases q.framing with _ | f <;> simp
  exact ⟨fun ⟨assemblers, missing, framing, check, mark, misroutes⟩ =>
      ⟨assemblers, missing, each.1 framing, check, mark, misroutes⟩,
    fun ⟨assemblers, missing, framing, check, mark, misroutes⟩ =>
      ⟨assemblers, missing, each.2 framing, check, mark, misroutes⟩⟩

/-- A write of the receiver that keeps the named parts. -/
theorem State.writeReceiver_keepsSound {s : State} {x : QhReceiver} (h : s.qh.Sound → x.Sound) :
    KeepsSound s { s with qh := x } :=
  State.writeQh_keepsSound fun q => x.sound_iff.1 (h (s.qh.sound_iff.2 q))

theorem State.post_keepsSound (rep : Report) (s : State) : KeepsSound s (s.post rep) :=
  (s.post_shelfMove rep).keepsHardware.keepsSound

/-- Such a write with a report posted after it. -/
theorem State.reportReceiver_keepsSound {s : State} {x : QhReceiver} {rep : Report} (h : s.qh.Sound → x.Sound) :
    KeepsSound s (State.post rep { s with qh := x }) :=
  (State.writeReceiver_keepsSound h).trans (State.post_keepsSound rep _)

theorem Framing.sound_iff (missing : Nat) (f : Framing) :
    f.sound missing = true
      ↔ (1 ≤ f.position ∧ f.position ≤ 384) ∧ (f.position = 1 ∨ f.position % 8 = 0)
        ∧ (f.missCounted = true → f.position = 384) ∧ f.watch ≤ 3750 ∧ missing < 8 := by
  have counted : (!f.missCounted || f.position == Config.bitsPerFrame) = true
      ↔ (f.missCounted = true → f.position = 384) := by
    cases f.missCounted <;> simp [Config.bitsPerFrame]
  simp only [Framing.sound, Bool.and_eq_true, decide_eq_true_eq, counted, Bool.or_eq_true, beq_iff_eq, and_assoc]
  rfl

theorem Framing.sound_start {missing : Nat} (h : missing < 8) : Framing.start.sound missing = true := by
  simp [Framing.sound_iff, Framing.start, h]

theorem assemblersSound_hunt (n : SlotNo) : ((Vector.replicate 48 Assembler.hunt)[n]).sound = true := by
  rw [show (Vector.replicate 48 Assembler.hunt)[n] = .hunt from by simp]
  rfl

/-- A frame starts and the misses counted so far stand below eight (R45, R48). -/
theorem QhReceiver.Sound.start {q : QhReceiver} (h : q.Sound) {missing : Nat} (few : missing < 8) :
    ({ q with framing := some .start, missing := missing } : QhReceiver).Sound :=
  { h with
    missing := Nat.le_of_lt few
    framing := fun _ e => Option.some.inj e ▸ Framing.sound_start few }

theorem State.loseHighway_keepsSound (s : State) : KeepsSound s s.loseHighway :=
  State.reportReceiver_keepsSound fun h =>
    { h with assemblers := assemblersSound_hunt, missing := Nat.le_refl 8, framing := fun _ e => nomatch e }

/-- A miss is counted and the framing is one that is sound below eight misses (R45 to R47). -/
theorem State.countMiss_keepsSound {f : Framing} (s : State) (sound : ∀ m < 8, f.sound m = true) :
    KeepsSound s (s.countMiss f) := by
  unfold State.countMiss
  split
  · exact s.loseHighway_keepsSound
  · rename_i few
    refine State.writeReceiver_keepsSound fun h => { h with missing := ?_, framing := fun _ e => ?_ }
    · show s.qh.missing + 1 ≤ 8
      omega
    · exact Option.some.inj e ▸ sound _ (Nat.lt_of_not_le few)

theorem State.startFrame_keepsSound (pulse : Bool) {f : Framing} {s : State} (aligned : s.qh.framing = some f) :
    KeepsSound s (s.startFrame pulse f) := by
  unfold State.startFrame
  split_ifs
  · exact State.writeReceiver_keepsSound fun h => h.start (by decide)
  · exact State.writeReceiver_keepsSound fun h =>
      h.start ((Framing.sound_iff _ f).1 (h.framing f aligned)).2.2.2.2
  · exact s.countMiss_keepsSound fun _ => Framing.sound_start

theorem execQhFrameStart_keepsSound (pulse : Bool) (s : State) :
    AnswersOnly (KeepsSound s) (execQhFrameStart pulse s) := by
  refine event_answersOnly (.refl s) ?_
  split
  · rename_i f aligned
    split
    · exact State.startFrame_keepsSound pulse aligned
    · exact .refl s
  · exact .refl s

/-- The framing that a run-out leaves (R46). -/
theorem Framing.sound_runOut (m : Nat) (h : m < 8) : Framing.sound m ⟨Config.bitsPerFrame, 0, true⟩ = true := by
  simp [Framing.sound_iff, Config.bitsPerFrame, h]

theorem execFrameWatchRunOut_keepsSound (s : State) : AnswersOnly (KeepsSound s) (execFrameWatchRunOut s) :=
  eventIf_answersOnly (.refl s) fun _ => s.countMiss_keepsSound Framing.sound_runOut

theorem State.realign_keepsSound (s : State) : KeepsSound s s.realign :=
  State.reportReceiver_keepsSound fun h =>
    { h.start (missing := 0) (by decide) with assemblers := assemblersSound_hunt }

theorem execQhSync_keepsSound (s : State) : AnswersOnly (KeepsSound s) (execQhSync s) := by
  refine event_answersOnly (.refl s) ?_
  split
  · split
    · exact .refl s
    · exact s.realign_keepsSound
  · exact .refl s

theorem execQhRecovered_keepsSound (s : State) : AnswersOnly (KeepsSound s) (execQhRecovered s) := by
  refine event_answersOnly (.refl s) ?_
  split
  · exact .refl s
  · exact State.reportReceiver_keepsSound fun h => h.start (missing := 0) (by decide)

/-! ## Words and blocks -/

/-- Sound blocks stay sound and the request buffer stays as it is: what every operation under a request does. -/
structure Serves (s t : State) : Prop where
  sound : KeepsSound s t
  buffer : t.port.buffer = s.port.buffer

theorem Serves.trans {s t u : State} (a : Serves s t) (b : Serves t u) : Serves s u :=
  ⟨a.sound.trans b.sound, b.buffer.trans a.buffer⟩

theorem KeepsHardware.serves {s t : State} (a : KeepsHardware s t) : Serves s t := ⟨a.keepsSound, by rw [a.port]⟩

theorem Serves.refl (s : State) : Serves s s := (KeepsHardware.refl s).serves

theorem State.writeReceiver_serves {s : State} {x : QhReceiver} (h : s.qh.Sound → x.Sound) :
    Serves s { s with qh := x } := ⟨State.writeReceiver_keepsSound h, rfl⟩

theorem State.reportReceiver_serves {s : State} {x : QhReceiver} {rep : Report} (h : s.qh.Sound → x.Sound) :
    Serves s (State.post rep { s with qh := x }) := ⟨State.reportReceiver_keepsSound h, by rw [State.post_port]⟩

theorem State.setAssembler_serves (n : SlotNo) {a : Assembler} (s : State)
    (sound : (∀ m : SlotNo, (s.assembler m).sound = true) → a.sound = true) : Serves s (s.setAssembler n a) :=
  State.writeReceiver_serves fun h =>
    { h with
      assemblers := fun m => by
        show ((s.setAssembler n a).assembler m).sound = true
        rw [State.assembler_setAssembler]
        split
        · exact sound h.assemblers
        · exact h.assemblers m }

theorem bump16_le (n : Nat) : bump16 n ≤ 65535 := Nat.min_le_right ..

theorem State.countCheckError_serves (n : SlotNo) (s : State) : Serves s (s.countCheckError n) :=
  State.reportReceiver_serves fun h => { h with checkErrors := bump16_le _ }

theorem State.countMarkError_serves (n : SlotNo) (s : State) : Serves s (s.countMarkError n) :=
  State.reportReceiver_serves fun h => { h with markErrors := bump16_le _ }

theorem State.countMisroute_serves (tag : Nat) (s : State) : Serves s (s.countMisroute tag) :=
  State.reportReceiver_serves fun h => { h with misroutes := bump16_le _ }

theorem State.openBlock_serves (n : SlotNo) (tag : WordValue) (s : State) : Serves s (s.openBlock n tag) := by
  unfold State.openBlock
  split_ifs with status report
  · exact s.setAssembler_serves n fun _ => by simp [Assembler.sound, status]
  · exact s.setAssembler_serves n fun _ => by simp [Assembler.sound, report]
  · exact (s.setAssembler_serves n fun _ => rfl).trans (State.countMisroute_serves _ _)

theorem State.judgeBlock_serves (n : SlotNo) (words : List WordValue) (s : State) :
    Serves s (s.judgeBlock n words) := by
  unfold State.judgeBlock
  split
  · exact s.countCheckError_serves n
  · split
    · exact (s.deliver_keepsHardware _).serves
    · exact s.countMisroute_serves _

/-- One more word of a block that is still unfinished with it (R52). -/
theorem Assembler.sound_append {length : Nat} {words : List WordValue} {w : WordValue}
    (h : (Assembler.collect length words).sound = true) (unfinished : words.length + 1 < length) :
    (Assembler.collect length (words ++ [w])).sound = true := by
  rcases words with _ | ⟨tag, rest⟩
  · cases h
  · simp only [Assembler.sound, List.cons_append, Bool.and_eq_true, decide_eq_true_eq] at h ⊢
    refine ⟨?_, h.2⟩
    simpa using unfinished

theorem State.feedWord_serves (n : SlotNo) (w : HighwayWord) (s : State) : Serves s (s.feedWord n w) := by
  unfold State.feedWord
  split
  · exact .refl s
  · exact s.openBlock_serves n _
  · rename_i length words collecting _
    split
    · exact (s.setAssembler_serves n fun _ => rfl).trans (State.judgeBlock_serves n _ _)
    · rename_i unfinished
      refine s.setAssembler_serves n fun h => Assembler.sound_append ?_ (Nat.lt_of_not_le unfinished)
      rw [← collecting]
      exact h n
  · exact (s.countMarkError_serves n).trans (State.openBlock_serves n _ _)

/-- The next word of a frame completes: its last bit is the bit last sampled (R44). -/
theorem State.passWord_keepsSound (n : SlotNo) {f : Framing} {s : State} (aligned : s.qh.framing = some f)
    (inside : f.frameOver = false) : KeepsSound s (s.passWord n f) := by
  refine State.writeReceiver_keepsSound fun h => { h with framing := fun g e => ?_ }
  obtain ⟨-, -, counted, watch, missing⟩ := (Framing.sound_iff _ f).1 (h.framing f aligned)
  have before : f.position < 384 := Nat.lt_of_not_le (of_decide_eq_false inside)
  obtain rfl := Option.some.inj e
  refine (Framing.sound_iff _ _).2 ⟨⟨?_, ?_⟩, .inr ?_, fun c => absurd (counted c) (by omega), watch, missing⟩
  all_goals dsimp only; omega

theorem execWordReceived_keepsSound (slot : Nat) (bits : Byte) (s : State) :
    AnswersOnly (KeepsSound s) (execWordReceived slot bits s) := by
  refine onSlot_answersOnly fun n => event_answersOnly (.refl s) ?_
  split
  · rename_i f aligned
    split
    · rename_i turn
      simp only [Bool.and_eq_true, Bool.not_eq_true'] at turn
      exact (State.passWord_keepsSound n aligned turn.1).trans (State.feedWord_serves n _ _).sound
    · exact .refl s
  · exact .refl s

/-! ## The Message Port -/

/-- Port.sound with its parts named. -/
structure Port.Sound (p : Port) : Prop where
  receive : p.receive.sound = true
  byteWatch : p.byteWatch ≤ 400000
  room : p.buffer.length ≤ 2
  bodies : ∀ f ∈ p.buffer, f.body.length ≤ 248
  held : p.transmit.isSome = true → p.buffer ≠ []
  sending : p.transmit.all Sending.sound = true

theorem Port.sound_iff (p : Port) : p.Sound ↔ p.sound :=
  ⟨fun ⟨receive, watch, room, bodies, held, sending⟩ => ⟨receive, watch, room, bodies, held, sending⟩,
    fun ⟨receive, watch, room, bodies, held, sending⟩ => ⟨receive, watch, room, bodies, held, sending⟩⟩

theorem State.setPort_keepsSound {s : State} {x : Port} (h : s.port.Sound → x.Sound) :
    KeepsSound s { s with port := x } :=
  State.writePort_keepsSound fun p => x.sound_iff.1 (h (s.port.sound_iff.2 p))

theorem State.huntAgain_keepsSound (s : State) : KeepsSound s s.huntAgain :=
  State.setPort_keepsSound fun h => { h with receive := rfl, byteWatch := Nat.zero_le _ }

theorem State.receiveIn_keepsSound {x : Receive} (s : State) (sound : s.port.receive.sound = true → x.sound = true) :
    KeepsSound s (s.receiveIn x) :=
  State.setPort_keepsSound fun h => { h with receive := sound h.receive, byteWatch := Nat.zero_le _ }

/-- A good frame goes to the buffer or is lost to overrun, and the receiver hunts again (R158, R159). -/
theorem State.bufferFrame_keepsSound {f : Frame} (s : State) (short : s.port.Sound → f.body.length ≤ 248) :
    KeepsSound s (s.huntAgain.bufferFrame f) := by
  unfold State.bufferFrame
  split
  · rename_i room
    refine State.setPort_keepsSound fun h =>
      { receive := rfl, byteWatch := Nat.zero_le _, room := ?_, bodies := fun g mem => ?_, held := fun _ => ?_,
        sending := h.sending }
    · rw [List.length_append]
      exact room
    · rcases List.mem_append.1 mem with old | new
      · exact h.bodies g old
      · rw [List.mem_singleton.1 new]
        exact short h
    · exact List.append_ne_nil_of_right_ne_nil _ (List.cons_ne_nil f [])
  · exact s.huntAgain_keepsSound.trans (State.post_keepsSound _ _)

theorem Receive.sound_body_iff (a : Assembly) :
    (Receive.body a).sound = true ↔ (2 ≤ a.length ∧ a.length ≤ 250) ∧ a.bytes.length < a.length := by
  simp [Receive.sound]

theorem Receive.sound_check1_iff (a : Assembly) :
    (Receive.check1 a).sound = true ↔ (2 ≤ a.length ∧ a.length ≤ 250) ∧ a.bytes.length = a.length := by
  simp [Receive.sound]

theorem Receive.sound_check2 (a : Assembly) (first : Byte) :
    (Receive.check2 a first).sound = (Receive.check1 a).sound :=
  rfl

/-- The last byte of the frame in assembly, or one before it, is received (R156). -/
theorem Receive.sound_add {a : Assembly} (b : Byte) (h : (Receive.body a).sound = true) :
    (if a.length ≤ a.bytes.length + 1 then Receive.check1 (a.add b) else .body (a.add b)).sound = true := by
  obtain ⟨range, unfinished⟩ := (Receive.sound_body_iff a).1 h
  have bytes : (a.add b).bytes.length = a.bytes.length + 1 := by simp [Assembly.add]
  have length : (a.add b).length = a.length := rfl
  split
  · exact (Receive.sound_check1_iff _).2 ⟨range, by omega⟩
  · exact (Receive.sound_body_iff _).2 ⟨range, by omega⟩

/-- A frame completes: its body is what follows its type and tag (R156, R158). -/
theorem State.frameComplete_keepsSound {a : Assembly} (first second : Byte) {s : State}
    (receiving : s.port.receive = .check2 a first) : KeepsSound s (s.frameComplete a first second) := by
  unfold State.frameComplete
  split
  · refine s.bufferFrame_keepsSound fun h => ?_
    have full := h.receive
    rw [receiving, Receive.sound_check2] at full
    obtain ⟨range, bytes⟩ := (Receive.sound_check1_iff a).1 full
    simp only [Assembly.frame, List.length_drop]
    omega
  · exact s.huntAgain_keepsSound.trans (State.post_keepsSound _ _)

theorem State.takeByte_keepsSound (b : Byte) (s : State) : KeepsSound s (s.takeByte b) := by
  unfold State.takeByte
  split
  · split
    · exact s.receiveIn_keepsSound fun _ => rfl
    · exact .refl s
  · split
    · rename_i range
      exact s.receiveIn_keepsSound fun _ =>
        (Receive.sound_body_iff _).2 ⟨range, Nat.lt_of_lt_of_le (by decide : 0 < 2) range.1⟩
    · exact s.huntAgain_keepsSound
  · rename_i a receiving
    exact s.receiveIn_keepsSound fun h => Receive.sound_add b (receiving ▸ h)
  · rename_i a receiving
    exact s.receiveIn_keepsSound fun h => by rwa [receiving, ← Receive.sound_check2 a b] at h
  · rename_i a first receiving
    exact State.frameComplete_keepsSound first b receiving

theorem State.takeFaultyByte_keepsSound (s : State) : KeepsSound s s.takeFaultyByte := by
  unfold State.takeFaultyByte
  split
  · exact .refl s
  · exact s.huntAgain_keepsSound.trans (State.post_keepsSound _ _)

theorem execByteReceived_keepsSound (value : Byte) (stopHigh : Bool) (s : State) :
    AnswersOnly (KeepsSound s) (execByteReceived value stopHigh s) := by
  refine event_answersOnly (.refl s) ?_
  split
  · exact s.takeByte_keepsSound value
  · exact s.takeFaultyByte_keepsSound

/-- The end of a reply takes its frame out of the buffer, or resets the part (R160, R165). -/
theorem State.endReply_keepsSound (s : State) : KeepsSound s s.endReply := by
  unfold State.endReply
  split
  · split
    · exact s.resetBy_keepsSound .request
    · exact State.setPort_keepsSound fun h =>
        { h with
          room := Nat.le_trans (List.length_tail ▸ Nat.sub_le ..) h.room
          bodies := fun f mem => h.bodies f (List.mem_of_mem_tail mem)
          held := fun sending => nomatch sending
          sending := rfl }
  · exact .refl s

end Sys2Proof.Machine

/-!
SUPPORT. The arithmetic of a gate: the filter's rounded quotient (R36), the clamps (R32, R33) and the qualification
(R37).
-/

namespace Sys2Proof.Machine

open Sys2Proof

/-! ## The rounded quotient -/

/-- n / 2^k rounded to the nearest, a half upwards: the magnitude of a filter step (R36). -/
def roundedQuotient (n k : Nat) : Nat := (2 * n + 2 ^ k) / 2 ^ (k + 1)

theorem filterStep_eq (d : Int) (k : Nat) : filterStep d k = d.sign * (roundedQuotient d.natAbs k : Int) := rfl

theorem two_pow_succ_mul (k m : Nat) : 2 ^ (k + 1) * m = 2 ^ k * (2 * m) := by
  rw [Nat.pow_succ, Nat.mul_assoc]

/-- Rounded to the nearest: at most half a divisor above the quotient. -/
theorem roundedQuotient_mul_le (n k : Nat) : 2 ^ k * (2 * roundedQuotient n k) ≤ 2 * n + 2 ^ k := by
  rw [← two_pow_succ_mul]
  exact Nat.mul_div_le _ _

/-- Rounded to the nearest: less than half a divisor below it. -/
theorem lt_roundedQuotient_mul (n k : Nat) : 2 * n + 2 ^ k < 2 ^ k * (2 * roundedQuotient n k + 2) := by
  rw [← Nat.mul_succ 2, ← two_pow_succ_mul]
  exact Nat.lt_mul_div_succ _ (Nat.two_pow_pos _)

theorem roundedQuotient_le (n k : Nat) : roundedQuotient n k ≤ n := by
  have grown : 2 * n ≤ 2 ^ k * (2 * n) := Nat.le_mul_of_pos_left _ (Nat.two_pow_pos k)
  have positive : 0 < 2 ^ k := Nat.two_pow_pos k
  refine Nat.le_of_lt_succ ((Nat.div_lt_iff_lt_mul (Nat.two_pow_pos _)).2 ?_)
  rw [Nat.mul_comm n.succ, two_pow_succ_mul, Nat.mul_succ, Nat.mul_add]
  omega

theorem roundedQuotient_zero_shift (n : Nat) : roundedQuotient n 0 = n := by
  simp only [roundedQuotient, Nat.pow_zero, Nat.zero_add, Nat.pow_one]
  omega

theorem roundedQuotient_of_small {n k : Nat} (h : 2 * n < 2 ^ k) : roundedQuotient n k = 0 := by
  refine Nat.div_eq_of_lt ?_
  rw [Nat.pow_succ]
  omega

/-! ## The step of the filter -/

theorem natAbs_filterStep (d : Int) (k : Nat) : (filterStep d k).natAbs = roundedQuotient d.natAbs k := by
  rw [filterStep_eq, Int.natAbs_mul, Int.natAbs_natCast]
  by_cases zero : d = 0
  · have still : roundedQuotient 0 k = 0 := Nat.le_zero.1 (roundedQuotient_le 0 k)
    rw [zero, Int.natAbs_zero, still, Nat.mul_zero]
  · rw [Int.natAbs_sign_of_ne_zero zero, Nat.one_mul]

/-- The step leads toward the new value and not past it (R36). -/
theorem filterStep_mem (d : Int) (k : Nat) : min 0 d ≤ filterStep d k ∧ filterStep d k ≤ max 0 d := by
  have magnitude := roundedQuotient_le d.natAbs k
  rw [filterStep_eq]
  rcases lt_trichotomy d 0 with negative | rfl | positive
  · rw [Int.sign_eq_neg_one_of_neg negative]
    omega
  · simp
  · rw [Int.sign_eq_one_of_pos positive]
    omega

/-- The new F lies between the old F and the adjusted offset (R36). -/
theorem filterStep_between (old adjusted : Int) (k : Nat) :
    min old adjusted ≤ old + filterStep (adjusted - old) k
      ∧ old + filterStep (adjusted - old) k ≤ max old adjusted := by
  have step := filterStep_mem (adjusted - old) k
  omega

/-! ## The clamps -/

theorem clampOffset_eq (x : Int) : clampOffset x = max (-400000) (min 400000 x) := rfl

theorem natAbs_clampOffset (x : Int) : (clampOffset x).natAbs ≤ 400000 := by
  rw [clampOffset_eq]
  omega

theorem beyondOffset_eq (x : Int) : beyondOffset x = decide (400000 < x.natAbs) := by
  refine decide_eq_decide.2 ?_
  rw [show Config.offsetLimit = 400000 from rfl]
  omega

theorem clampOffset_of_within {x : Int} (h : beyondOffset x = false) : clampOffset x = x := by
  rw [beyondOffset_eq, decide_eq_false_iff_not] at h
  rw [clampOffset_eq]
  omega

theorem natAbs_filtered_le {old adjusted : Int} (k : Nat) (before : old.natAbs ≤ 400000)
    (after : adjusted.natAbs ≤ 400000) : (old + filterStep (adjusted - old) k).natAbs ≤ 400000 := by
  have step := filterStep_between old adjusted k
  omega

/-! ## A completed gate -/

/-- Seeded from UNMEASURED, with an empty filter or by a saturated gate, and else stepped (R35, R36). -/
theorem newFiltered_eq (c : Channel) (saturated : Bool) (adjusted : Int) (k : Nat) :
    newFiltered c saturated adjusted k = match c.filtered with
      | some old =>
        if c.freq = .unmeasured ∨ saturated = true then adjusted else old + filterStep (adjusted - old) k
      | none => adjusted := by
  unfold newFiltered
  rcases c.freq with _ | _ | _ <;> rcases saturated with _ | _ <;> rcases c.filtered with _ | old <;> simp

theorem newFiltered_of_measured {c : Channel} {old : Int} (adjusted : Int) (k : Nat) (measured : c.freq ≠ .unmeasured)
    (filtered : c.filtered = some old) : newFiltered c false adjusted k = old + filterStep (adjusted - old) k := by
  simp [newFiltered_eq, filtered, measured]

theorem natAbs_newFiltered {c : Channel} (saturated : Bool) {adjusted : Int} (k : Nat)
    (before : offsetSound c.filtered = true) (after : adjusted.natAbs ≤ 400000) :
    (newFiltered c saturated adjusted k).natAbs ≤ 400000 := by
  rw [newFiltered_eq]
  rcases filtered : c.filtered with _ | old
  · exact after
  · dsimp only
    split
    · exact after
    · exact natAbs_filtered_le k (by simpa [offsetSound, filtered] using before) after

theorem qualify_saturated (q : FreqState) (f : Int) (limit hysteresis : Nat) :
    qualify q true f limit hysteresis = .outOfRange := rfl

/-- From UNMEASURED and IN RANGE the pull limit decides (R37). -/
theorem qualify_of_fresh {q : FreqState} (fresh : q = .unmeasured ∨ q = .inRange) (f : Int) (limit hysteresis : Nat) :
    qualify q false f limit hysteresis = if f.natAbs ≤ limit then .inRange else .outOfRange := by
  rcases fresh with rfl | rfl <;> rfl

/-- From OUT OF RANGE the pull limit less the hysteresis decides (R37). -/
theorem qualify_of_outOfRange (f : Int) (limit hysteresis : Nat) :
    qualify .outOfRange false f limit hysteresis
      = if (f.natAbs : Int) ≤ (limit : Int) - hysteresis then .inRange else .outOfRange := rfl

/-- A completed gate leaves a channel measured (R37). -/
theorem qualify_ne_unmeasured (q : FreqState) (saturated : Bool) (f : Int) (limit hysteresis : Nat) :
    qualify q saturated f limit hysteresis ≠ .unmeasured := by
  unfold qualify
  split
  · nofun
  · split <;> split <;> nofun

/-- Settles O10: the rounded quotient by its two inequalities, and the new F by the bounds of the step. -/
theorem filterStepsByTheRoundedQuotient : Obligations.FilterStepsByTheRoundedQuotient := by
  refine ⟨fun d k => ?_, by decide, by decide, by decide, ?_⟩
  · rw [natAbs_filterStep]
    refine ⟨rfl, roundedQuotient_mul_le _ k, lt_roundedQuotient_mul _ k, roundedQuotient_le _ k, ?_, fun _ small => ?_⟩
    · rintro rfl
      rw [filterStep_eq, roundedQuotient_zero_shift, Int.sign_mul_natAbs]
    · rw [filterStep_eq, roundedQuotient_of_small small, Int.natCast_zero, Int.mul_zero]
  · intro c cfg trim ticks old adjusted measured filtered unsaturated sum
    have within := (Bool.or_eq_false_iff.1 unsaturated).2
    have adjust : clampOffset (clampOffset (rawOffset cfg.gateLength ticks) + trim) = adjusted :=
      (clampOffset_of_within within).trans sum.symm
    have stepped : (c.complete cfg trim ticks).filtered = some (old + filterStep (adjusted - old) cfg.filterShift) := by
      rw [← newFiltered_of_measured adjusted cfg.filterShift measured filtered, ← adjust]
      exact congrArg (fun sat => some (newFiltered c sat _ cfg.filterShift)) unsaturated
    obtain ⟨least, most⟩ := filterStep_between old adjusted cfg.filterShift
    exact ⟨_, stepped, rfl, least, most, fun before =>
      natAbs_filtered_le cfg.filterShift before (adjust ▸ natAbs_clampOffset _)⟩

end Sys2Proof.Machine

/-!
SUPPORT. The channels: what an edge, a loss of signal and a measurement tick leave in one, and that each keeps it
sound.
-/

namespace Sys2Proof.Machine

open Sys2Proof

/-! ## A channel that is sound -/

/-- Channel.sound with its parts named. -/
structure Channel.Sound (gateLength : Nat) (c : Channel) : Prop where
  filter : c.filtered = none ↔ c.freq = .unmeasured
  lost : c.present = false → c.freq = .unmeasured
  gate : c.present = true ↔ c.gate ≠ none
  watch : c.edgeWatch ≤ 10000
  closed : c.sampleClosed = true → c.present = true → c.edgeWatch = 10000
  counts : ∀ g, c.gate = some g → g.edges < 8000 * gateLength ∧ g.ticks ≤ 10000 * g.edges + c.edgeWatch
  lastRaw : offsetSound c.lastRaw = true
  filtered : offsetSound c.filtered = true

theorem Gate.sound_iff (gateLength watch : Nat) (g : Gate) :
    g.sound gateLength watch = true ↔ g.edges < 8000 * gateLength ∧ g.ticks ≤ 10000 * g.edges + watch := by
  simp [Gate.sound]

theorem Channel.sound_iff (gateLength : Nat) (c : Channel) : c.Sound gateLength ↔ c.sound gateLength := by
  have each : (∀ g, c.gate = some g → g.edges < 8000 * gateLength ∧ g.ticks ≤ 10000 * g.edges + c.edgeWatch)
      ↔ c.gate.all (Gate.sound gateLength c.edgeWatch) = true := by
    rcases c.gate with _ | g <;> simp [Gate.sound_iff]
  exact ⟨fun ⟨filter, lost, gate, watch, closed, counts, raw, filtered⟩ =>
      ⟨filter, lost, gate, watch, closed, each.1 counts, raw, filtered⟩,
    fun ⟨filter, lost, gate, watch, closed, counts, raw, filtered⟩ =>
      ⟨filter, lost, gate, watch, closed, each.2 counts, raw, filtered⟩⟩

theorem offsetSound_some {x : Int} (h : x.natAbs ≤ 400000) : offsetSound (some x) = true := by
  simpa [offsetSound] using h

/-! ## Edges -/

/-- The pin sampled high reads in no other field of the channel. -/
theorem Channel.Sound.sampled {n : Nat} {c : Channel} (h : c.Sound n) (high : Bool) :
    ({ c with pinNow := high } : Channel).Sound n := { h with }

theorem Channel.Sound.signalReturn {n : Nat} {c : Channel} (h : c.Sound n) (positive : 0 < n)
    (opened : c.sampleClosed = false) : c.signalReturn.Sound n :=
  { h with
    lost := nofun
    gate := ⟨fun _ => nofun, fun _ => rfl⟩
    watch := Nat.zero_le _
    closed := fun closed => nomatch opened.symm.trans closed
    counts := fun g e => by
      obtain rfl : (⟨0, 0⟩ : Gate) = g := Option.some.inj e
      exact ⟨Nat.mul_pos (by decide) positive, Nat.zero_le _⟩ }

theorem Channel.endingCount_eq_none_iff (cfg : RefConfig) (c : Channel) :
    c.endingCount cfg = none ↔ ∀ g, c.gate = some g → g.edges + 1 < 8000 * cfg.gateLength := by
  unfold Channel.endingCount
  rcases c.gate with _ | g
  · simp
  · simp

theorem Channel.endingCount_of_ending {cfg : RefConfig} {c : Channel} {g : Gate} (gate : c.gate = some g)
    (ending : 8000 * cfg.gateLength ≤ g.edges + 1) : c.endingCount cfg = some g.ticks := by
  simp [Channel.endingCount, gate, ending]

/-- An edge inside a gate: the interval that ends was no longer than the edge watch allows (R27, R28, R30). -/
theorem Channel.Sound.countEdge {cfg : RefConfig} {c : Channel} (h : c.Sound cfg.gateLength)
    (inside : c.endingCount cfg = none) (opened : c.sampleClosed = false) : c.countEdge.Sound cfg.gateLength :=
  { h with
    gate := h.gate.trans (by simp [Channel.countEdge])
    watch := Nat.zero_le _
    closed := fun closed => nomatch opened.symm.trans closed
    counts := fun g e => by
      obtain ⟨old, gate, rfl⟩ := Option.map_eq_some_iff.1 e
      have few := (c.endingCount_eq_none_iff cfg).1 inside old gate
      have ticks := (h.counts old gate).2
      have watch := h.watch
      show old.edges + 1 < _ ∧ old.ticks ≤ 10000 * (old.edges + 1) + 0
      omega }

theorem Channel.Sound.complete {cfg : RefConfig} {c : Channel} (h : c.Sound cfg.gateLength)
    (positive : 0 < cfg.gateLength) (present : c.present = true) (opened : c.sampleClosed = false) (trim : Int)
    (ticks : Nat) : (c.complete cfg trim ticks).Sound cfg.gateLength where
  filter := iff_of_false nofun (qualify_ne_unmeasured _ _ _ _ _)
  lost := fun lost => nomatch present.symm.trans lost
  gate := ⟨fun _ => nofun, fun _ => present⟩
  watch := Nat.zero_le _
  closed := fun closed => nomatch opened.symm.trans closed
  counts := fun g e => by
    obtain rfl : (⟨0, 0⟩ : Gate) = g := Option.some.inj e
    exact ⟨Nat.mul_pos (by decide) positive, Nat.zero_le _⟩
  lastRaw := offsetSound_some (natAbs_clampOffset _)
  filtered := offsetSound_some (natAbs_newFiltered _ _ h.filtered (natAbs_clampOffset _))

/-- Channel r once the edge of this tick has been taken (R27 to R30). -/
def State.channelAfterEdge (s : State) (r : RefNo) : Channel :=
  if (s.chan r).present then
    match (s.chan r).endingCount (s.ref r).cfg with
    | some ticks => (s.chan r).complete (s.ref r).cfg s.monitor.trim ticks
    | none => (s.chan r).countEdge
  else (s.chan r).signalReturn

theorem State.channelAfterEdge_of_lost {s : State} {r : RefNo} (lost : (s.chan r).present = false) :
    s.channelAfterEdge r = (s.chan r).signalReturn := by
  simp [State.channelAfterEdge, lost]

theorem State.channelAfterEdge_of_inside {s : State} {r : RefNo} (present : (s.chan r).present = true)
    (inside : (s.chan r).endingCount (s.ref r).cfg = none) : s.channelAfterEdge r = (s.chan r).countEdge := by
  simp [State.channelAfterEdge, present, inside]

theorem State.channelAfterEdge_of_ending {s : State} {r : RefNo} {ticks : Nat} (present : (s.chan r).present = true)
    (ending : (s.chan r).endingCount (s.ref r).cfg = some ticks) :
    s.channelAfterEdge r = (s.chan r).complete (s.ref r).cfg s.monitor.trim ticks := by
  simp [State.channelAfterEdge, present, ending]

theorem State.postFreq_same (r : RefNo) (q : FreqState) (s : State) : s.postFreq r q q = s := if_pos rfl

/-- An edge writes its channel, posts a changed frequency state and hands the defect condition on (R29, R30, R38,
R39). -/
theorem State.takeEdge_eq (r : RefNo) (s : State) :
    s.takeEdge r = s.takeDefect r ((s.setChan r (s.channelAfterEdge r)).postFreq r (s.chan r).freq
      (s.channelAfterEdge r).freq) := by
  rcases present : (s.chan r).present with _ | _
  · rw [State.channelAfterEdge_of_lost present, show (s.chan r).signalReturn.freq = (s.chan r).freq from rfl,
      State.postFreq_same]
    simp [State.takeEdge, present, State.setChanTaking]
  · rcases count : (s.chan r).endingCount (s.ref r).cfg with _ | ticks
    · rw [State.channelAfterEdge_of_inside present count, show (s.chan r).countEdge.freq = (s.chan r).freq from rfl,
        State.postFreq_same]
      simp [State.takeEdge, present, count, State.setChanTaking]
    · rw [State.channelAfterEdge_of_ending present count]
      simp [State.takeEdge, present, count, State.completeGate]

/-- An edge writes its own channel and moves its own reference. -/
theorem State.edgeEvent_refMove (r : RefNo) (s : State) :
    RefMove r (s.setChan r ((s.samplePin r).channelAfterEdge r)) (s.edgeEvent r) := by
  have written : (s.samplePin r).setChan r ((s.samplePin r).channelAfterEdge r)
      = s.setChan r ((s.samplePin r).channelAfterEdge r) := s.setChan_setChan r _ _
  have posted := (s.setChan r ((s.samplePin r).channelAfterEdge r)).postFreq_shelfMove r ((s.samplePin r).chan r).freq
    ((s.samplePin r).channelAfterEdge r).freq
  have taken := (posted.refMove r).trans (State.takeDefect_refMove (s.samplePin r) r _)
  rw [State.edgeEvent, State.regrading, State.takeEdge_eq, written]
  exact taken.trans ((State.handOnGrades_shelfMove _ _).refMove r)

/-- A loss of signal writes its own channel and moves its own reference. -/
theorem State.loseSignal_refMove (r : RefNo) (s : State) :
    RefMove r (s.setChan r (s.chan r).lose) (s.loseSignal r) :=
  (State.takeDefect_refMove s r _).trans ((State.handOnGrades_shelfMove _ _).refMove r)

theorem State.channelAfterEdge_sound {r : RefNo} {s : State} (h : s.channelSound r)
    (opened : (s.chan r).sampleClosed = false) :
    (s.channelAfterEdge r).Sound (s.ref r).cfg.gateLength := by
  obtain ⟨length, sound⟩ := h
  have sound := (Channel.sound_iff _ _).2 sound
  have positive : 0 < (s.ref r).cfg.gateLength := by
    simp only [List.mem_cons, List.not_mem_nil, or_false] at length
    omega
  unfold State.channelAfterEdge
  split
  · rename_i present
    split
    · exact sound.complete positive present opened _ _
    · rename_i inside
      exact sound.countEdge inside opened
  · exact sound.signalReturn positive opened

/-! ## A loss of signal, a tick, a restart -/

theorem Channel.Sound.lose {n : Nat} {c : Channel} (h : c.Sound n) : c.lose.Sound n :=
  { h with
    filter := ⟨fun _ => rfl, fun _ => rfl⟩
    lost := fun _ => rfl
    gate := ⟨nofun, fun given => absurd rfl given⟩
    watch := Nat.zero_le _
    closed := fun _ present => nomatch present
    counts := fun _ e => nomatch e
    filtered := rfl }

theorem Channel.atWatchLimit_iff (c : Channel) :
    c.atWatchLimit = true ↔ c.present = true ∧ 10000 ≤ c.edgeWatch := by
  simp only [Channel.atWatchLimit, Bool.and_eq_true, decide_eq_true_eq]
  rfl

theorem Channel.Sound.closeWatch {n : Nat} {c : Channel} (h : c.Sound n) : c.closeWatch.Sound n := by
  unfold Channel.closeWatch
  split
  · rename_i full
    obtain ⟨-, limit⟩ := c.atWatchLimit_iff.1 (Bool.and_eq_true_iff.1 full).1
    exact { h with closed := fun _ _ => Nat.le_antisymm h.watch limit }
  · exact h

/-- A measurement tick before the edge watch has reached its limit (R28). -/
theorem Channel.Sound.afterTick {n : Nat} {c : Channel} (h : c.Sound n) (early : c.atWatchLimit = false) :
    c.afterTick.Sound n := by
  have watch : c.afterTick.edgeWatch = c.edgeWatch + if c.present then 1 else 0 := by
    cases present : c.present <;> simp [Channel.afterTick, present]
  have before : c.present = true → c.edgeWatch < 10000 := fun present =>
    Nat.lt_of_not_le fun limit => by simpa [early] using c.atWatchLimit_iff.2 ⟨present, limit⟩
  refine { h with gate := h.gate.trans ?_, watch := ?_, closed := nofun, counts := fun g e => ?_ }
  · simp [Channel.afterTick]
  · have most := h.watch
    rw [watch]
    split
    · rename_i present
      exact before present
    · exact most
  · obtain ⟨old, gate, rfl⟩ := Option.map_eq_some_iff.1 e
    have present : c.present = true := h.gate.2 (by simp [gate])
    obtain ⟨edges, ticks⟩ := h.counts old gate
    rw [watch, if_pos present]
    exact ⟨edges, Nat.succ_le_succ ticks⟩

/-- A restarted channel is as after reset but for the pin's samples (R10). -/
theorem Channel.sound_restart (n : Nat) (c : Channel) : c.restart.Sound n where
  filter := ⟨fun _ => rfl, fun _ => rfl⟩
  lost := fun _ => rfl
  gate := ⟨nofun, fun given => absurd rfl given⟩
  watch := Nat.zero_le _
  closed := fun _ present => nomatch present
  counts := fun _ e => nomatch e
  lastRaw := rfl
  filtered := rfl

/-! ## Their events -/

/-- A reference moves and its channel is written by one that is sound where the old one is. -/
theorem RefMove.keepsSound_of_setChan {r : RefNo} {c : Channel} {s t : State} (move : RefMove r (s.setChan r c) t)
    (sound : s.channelSound r → c.Sound (s.ref r).cfg.gateLength) : KeepsSound s t := by
  have written : KeepsSound s (s.setChan r c) := by
    refine ⟨id, id, id, id, fun q h => ?_⟩
    unfold State.channelSound
    rw [State.chan_setChan, State.ref_setChan]
    split
    · rename_i e
      subst e
      exact ⟨h.1, (Channel.sound_iff _ _).1 (sound h)⟩
    · exact h
  exact written.trans move.keepsHardware.keepsSound

theorem Channel.sampleOpen_iff (c : Channel) : c.sampleOpen = true ↔ c.pinNow = false ∧ c.sampleClosed = false := by
  simp [Channel.sampleOpen]

theorem State.channelSound.sampled {r : RefNo} {s : State} (h : s.channelSound r) : (s.samplePin r).channelSound r := by
  obtain ⟨length, sound⟩ := h
  refine ⟨length, ?_⟩
  rw [State.chan_samplePin, if_pos rfl]
  exact (Channel.sound_iff _ _).1 (((Channel.sound_iff _ _).2 sound).sampled true)

theorem execEdge_keepsSound (r : Nat) (s : State) : AnswersOnly (KeepsSound s) (execEdge r s) := by
  refine onRef_answersOnly fun r => eventIf_answersOnly (.refl s) fun opened => ?_
  split
  · refine (RefMove.refl r _).keepsSound_of_setChan fun h => ?_
    exact ((Channel.sound_iff _ _).2 h.2).sampled true
  · refine (s.edgeEvent_refMove r).keepsSound_of_setChan fun h => State.channelAfterEdge_sound h.sampled ?_
    rw [State.chan_samplePin, if_pos rfl]
    exact ((s.chan r).sampleOpen_iff.1 opened).2

theorem execSignalLost_keepsSound (r : Nat) (s : State) : AnswersOnly (KeepsSound s) (execSignalLost r s) :=
  onRef_answersOnly fun r => eventIf_answersOnly (.refl s) fun _ =>
    (s.loseSignal_refMove r).keepsSound_of_setChan fun h => ((Channel.sound_iff _ _).2 h.2).lose

theorem clampGate_mem (n : Nat) : clampGate n ∈ [1, 2, 4, 8] := by
  unfold clampGate
  split_ifs <;> decide

theorem State.reconfigure_keepsSound (r : RefNo) (body : List Byte) (s : State) :
    KeepsSound s (s.reconfigure r (refConfigOf body)) := by
  rw [State.reconfigure_eq]
  refine ⟨id, id, id, id, fun q h => ?_⟩
  rw [← State.reconfigure_eq]
  unfold State.channelSound
  rw [State.ref_reconfigure, State.chan_reconfigure]
  split
  · exact ⟨clampGate_mem _, (Channel.sound_iff _ _).1 (Channel.sound_restart _ _)⟩
  · exact h

end Sys2Proof.Machine

/-!
SUPPORT. Every step keeps the clocks, the channels, both highways and the Message Port sound: the requests, the empty
queue, and the walk through the commands.
-/

namespace Sys2Proof.Machine

open Sys2Proof

/-! ## Requests -/

/-- A request is taken: its owning block serves it and the reply is being sent for a frame that is held (R160). -/
theorem takeRequest_keepsSound {named : Nat → Bool} {serve : List Byte → State → Answer} {s : State}
    (hs : ∀ body, Serves s (serve body s).state) : AnswersOnly (KeepsSound s) (takeRequest named serve s) := by
  rcases takeRequest_cases named serve s with e | ⟨f, waiting, -, e⟩ <;> rw [e]
  · exact answersOnly_next (.refl s)
  · obtain ⟨sound, buffer⟩ := hs f.body
    have held : s.port.buffer ≠ [] := by
      intro empty
      simp [State.waiting, empty] at waiting
    exact answersOnly_next (sound.trans (State.setPort_keepsSound fun h =>
      { h with held := fun _ => buffer ▸ held, sending := rfl }))

/-- A request that is answered from the state as it is. -/
theorem takeRequest_of_state_keepsSound {named : Nat → Bool} {serve : List Byte → State → Answer} {s : State}
    (hs : ∀ body, (serve body s).state = s) : AnswersOnly (KeepsSound s) (takeRequest named serve s) :=
  takeRequest_keepsSound fun body => (hs body).symm ▸ .refl s

/-- A request that is refused, or served by an operation that leaves these blocks as they are. -/
theorem takeRequest_of_hardware_keepsSound {named : Nat → Bool} {serve : List Byte → State → Answer} {s : State}
    (hs : ∀ body, KeepsHardware s (serve body s).state) : AnswersOnly (KeepsSound s) (takeRequest named serve s) :=
  takeRequest_keepsSound fun body => (hs body).serves

theorem serveClearRestore_keepsHardware (body : List Byte) (s : State) :
    KeepsHardware s (serveClearRestore body s).state := by
  rcases serveClearRestore_cases body s with e | ⟨r, e⟩ <;> rw [e]
  · exact .refl s
  · exact s.clearRestoring_keepsHardware r

theorem serveLoadCodePlan_keepsHardware (body : List Byte) (s : State) :
    KeepsHardware s (serveLoadCodePlan body s).state := by
  rcases serveLoadCodePlan_cases body s with e | ⟨p, -, e⟩ <;> rw [e]
  · exact .refl s
  · exact State.regrading_keepsHardware (s.setPlan_keepsHardware p _)

theorem serveSetGradeOverride_keepsHardware (body : List Byte) (s : State) :
    KeepsHardware s (serveSetGradeOverride body s).state := by
  rcases serveSetGradeOverride_cases body s with e | ⟨r, g, -, -, e⟩ <;> rw [e]
  · exact .refl s
  · exact State.regrading_keepsHardware (s.setRun_keepsHardware r _)

theorem serveConfigureShelf_keepsHardware (body : List Byte) (s : State) :
    KeepsHardware s (serveConfigureShelf body s).state := by
  rcases serveConfigureShelf_cases body s with e | ⟨h, -, -, -, e⟩ <;> rw [e]
  · exact .refl s
  · exact State.regrading_keepsHardware (s.reconfigureShelf_keepsHardware h _ _)

theorem serveSetSelectionLimits_keepsHardware (body : List Byte) (s : State) :
    KeepsHardware s (serveSetSelectionLimits body s).state := by
  rcases serveSetSelectionLimits_cases body s with e | ⟨_, _, _, -, e⟩ <;> rw [e]
  · exact .refl s
  · exact s.setLimits_keepsHardware _ _ _

theorem serveSwitch_keepsHardware (body : List Byte) (s : State) : KeepsHardware s (serveSwitch body s).state := by
  rcases serveSwitch_cases body s with e | ⟨h, -, e⟩ | ⟨h, force, r, -, -, e⟩ <;> rw [e]
  · exact .refl s
  · exact (s.setRequest_shelfMove h _).keepsHardware
  · exact (s.setRequest_shelfMove h _).keepsHardware

theorem serveLockout_keepsHardware (body : List Byte) (s : State) : KeepsHardware s (serveLockout body s).state := by
  rcases serveLockout_cases body s with e | ⟨h, r, entry, on, -, e⟩ <;> rw [e]
  · exact .refl s
  · exact State.regrading_keepsHardware (s.lockOut_shelfMove h r _ on).keepsHardware

theorem serveHold_keepsHardware (body : List Byte) (s : State) : KeepsHardware s (serveHold body s).state := by
  rcases serveHold_cases body s with e | ⟨named, on, e⟩ <;> rw [e]
  · exact .refl s
  · exact s.setHolds_keepsHardware named on

/-- The Report Queue alone is written. -/
theorem State.writeQueue_keepsHardware (q : ReportQueue) (s : State) : KeepsHardware s { s with queue := q } :=
  .of_refs rfl rfl rfl rfl rfl rfl

theorem serveSetReporting_keepsHardware (body : List Byte) (s : State) :
    KeepsHardware s (serveSetReporting body s).state := by
  rcases serveSetReporting_cases body s with e | ⟨_, _, e⟩ <;> rw [e]
  · exact .refl s
  · exact s.writeQueue_keepsHardware _

theorem serveCollect_keepsHardware (body : List Byte) (s : State) : KeepsHardware s (serveCollect body s).state := by
  rcases serveCollect_cases body s with e | ⟨_, e⟩ <;> rw [e]
  · exact .refl s
  · exact s.writeQueue_keepsHardware _

theorem serveEndService_keepsHardware (body : List Byte) (s : State) :
    KeepsHardware s (serveEndService body s).state := by
  rcases serveEndService_cases body s with e | ⟨-, e⟩ <;> rw [e]
  · exact .refl s
  · exact s.writeQueue_keepsHardware _

theorem serveConfigureReference_serves (body : List Byte) (s : State) :
    Serves s (serveConfigureReference body s).state := by
  rcases serveConfigureReference_cases body s with e | ⟨r, -, -, -, e⟩ <;> rw [e]
  · exact .refl s
  · have stored : Serves s (s.reconfigure r (refConfigOf body)) :=
      ⟨s.reconfigure_keepsSound r body, by rw [State.reconfigure_port]⟩
    exact stored.trans (State.handOnGrades_shelfMove _ _).keepsHardware.serves

theorem serveSetOscillatorTrim_serves (body : List Byte) (s : State) :
    Serves s (serveSetOscillatorTrim body s).state := by
  rcases serveSetOscillatorTrim_cases body s with e | ⟨x, e⟩ <;> rw [e]
  · exact .refl s
  · exact ⟨⟨id, id, id, id, fun _ => id⟩, rfl⟩

theorem serveSetHighway_serves (body : List Byte) (s : State) : Serves s (serveSetHighway body s).state := by
  rcases serveSetHighway_cases body s with e | ⟨mode, enable, e⟩ <;> rw [e]
  · exact .refl s
  · exact ⟨⟨id, id, id, id, fun _ => id⟩, rfl⟩

theorem serveReadHighway_serves (body : List Byte) (s : State) : Serves s (serveReadHighway body s).state := by
  rcases serveReadHighway_cases body s with e | e <;> rw [e]
  · exact .refl s
  · exact State.writeReceiver_serves fun h =>
      { h with checkErrors := Nat.zero_le _, markErrors := Nat.zero_le _, misroutes := Nat.zero_le _ }

theorem serveInjectBlock_serves (body : List Byte) (s : State) : Serves s (serveInjectBlock body s).state := by
  rcases serveInjectBlock_cases body s with e | ⟨n, words, -, e⟩ <;> rw [e]
  · exact .refl s
  · exact State.feedWords_induction n (fun w u h => h.trans (u.feedWord_serves n w)) words s (.refl s)

/-- The mode is stored, and no part of the port's invariant reads it (R163). -/
theorem State.storeMode_serves (m : Mode) (s : State) : Serves s (s.storeMode m) := by
  have stored : Serves s { s with port := { s.port with mode := m } } :=
    ⟨State.setPort_keepsSound fun h => { h with }, rfl⟩
  exact stored.trans (State.post_shelfMove _ _).keepsHardware.serves

theorem State.changeMode_serves (m : Mode) (s : State) : Serves s (s.changeMode m) := by
  unfold State.changeMode
  split
  · exact .refl s
  · cases m with
    | maintenance => exact s.storeMode_serves _
    | normal =>
      exact (s.storeMode_serves _).trans
        (State.regrading_keepsHardware (State.clearOverrides_keepsHardware _)).serves

theorem serveSetMode_serves (body : List Byte) (s : State) : Serves s (serveSetMode body s).state := by
  rcases serveSetMode_cases body s with e | ⟨m, e⟩ <;> rw [e]
  · exact .refl s
  · exact s.changeMode_serves m

/-! ## An empty queue -/

/-- A measurement tick passes only where no counted event is due and no edge watch is at its limit (log 3). -/
theorem State.idle_cases_of_due (s : State) :
    s.idle = s ∨ s.idle = s.closeWatches
      ∨ (s.watchesFull = false ∧ s.timeEventDue = false ∧ s.idle = s.afterTick) := by
  unfold State.idle
  split_ifs with held full due
  · exact .inl rfl
  · exact .inr (.inl rfl)
  · exact .inl rfl
  · exact .inr (.inr ⟨by simpa using full, by simpa using due, rfl⟩)

/-- What a tick that passes finds of the counts: each below its limit (R22, R28, R46, R134, R157). -/
structure State.BelowLimits (s : State) : Prop where
  subTicks : s.time.subTicks < 2000000
  frameWatch : ∀ f, s.qh.framing = some f → f.watch < 3750
  byteWatch : s.port.receive ≠ .hunt → s.port.byteWatch < 400000
  dhTicks : s.dh.ticks < 2500
  edgeWatch : ∀ r : RefNo, (s.chan r).atWatchLimit = false

/-- No signal is lost at a tick that passes: a full watch waits for its sample, and then for the loss (R28). -/
theorem State.atWatchLimit_of_passing {s : State} {r : RefNo} (sampled : s.watchesFull = false)
    (kept : s.signalLossDue r = false) : (s.chan r).atWatchLimit = false := by
  have notFull : ¬ (s.chan r).watchFull = true := fun full => by
    simpa [sampled] using s.watchesFull_iff.2 ⟨r, full⟩
  rcases closed : (s.chan r).sampleClosed with _ | _
  · simpa [Channel.watchFull, closed] using notFull
  · simpa [State.signalLossDue, closed] using kept

theorem State.belowLimits {s : State} (sampled : s.watchesFull = false) (free : s.timeEventDue = false) :
    s.BelowLimits := by
  simp only [State.timeEventDue, Bool.or_eq_false_iff, List.any_eq_false, Bool.or_eq_true, not_or] at free
  obtain ⟨⟨⟨⟨⟨⟨⟨⟨tick, second⟩, frame⟩, byte⟩, -⟩, dh⟩, refs⟩, -⟩, -⟩ := free
  refine ⟨?_, fun f aligned => ?_, fun receiving => ?_, Nat.lt_of_not_le (of_decide_eq_false dh), fun r => ?_⟩
  · by_contra late
    simp [s.tickEventDue_iff.2 ⟨Nat.le_of_not_lt late, second⟩] at tick
  · rw [State.frameWatchDue, aligned] at frame
    exact Nat.lt_of_not_le (of_decide_eq_false frame)
  · simp only [State.byteWatchDue, receiving, ne_eq, not_false_eq_true, decide_true, Bool.true_and] at byte
    exact Nat.lt_of_not_le (of_decide_eq_false byte)
  · obtain ⟨⟨⟨lost, -⟩, -⟩, -⟩ := refs r (List.mem_finRange r)
    exact State.atWatchLimit_of_passing sampled (by simpa using lost)

theorem Sending.sound_afterTick {x : Sending} (h : x.sound = true) : x.afterTick.sound = true := by
  have before : x.elapsed < 15625 := of_decide_eq_true h
  unfold Sending.afterTick Config.byteTime Config.byteTimePerTick
  refine decide_eq_true ?_
  show _ < 15625
  split <;> dsimp only <;> omega

theorem QhReceiver.Sound.afterTick {q : QhReceiver} (h : q.Sound)
    (early : ∀ f, q.framing = some f → f.watch < 3750) :
    ({ q with framing := q.framing.map fun f => { f with watch := f.watch + 1 } } : QhReceiver).Sound :=
  { h with
    framing := fun f e => by
      obtain ⟨old, aligned, rfl⟩ := Option.map_eq_some_iff.1 e
      obtain ⟨range, place, counted, -, missing⟩ := (Framing.sound_iff _ _).1 (h.framing old aligned)
      exact (Framing.sound_iff _ _).2 ⟨range, place, counted, early old aligned, missing⟩ }

theorem Port.Sound.afterTick {p : Port} (h : p.Sound) (early : p.receive ≠ .hunt → p.byteWatch < 400000) :
    ({ p with
        transmit := p.transmit.map Sending.afterTick
        byteWatch := if p.receive = .hunt then p.byteWatch else p.byteWatch + 1 } : Port).Sound :=
  { h with
    byteWatch := by
      dsimp only
      split
      · exact h.byteWatch
      · rename_i receiving
        exact early receiving
    held := fun sending => h.held (by simpa using sending)
    sending := by
      have sound := h.sending
      rcases sending : p.transmit with _ | x
      · rfl
      · rw [sending] at sound
        exact Sending.sound_afterTick sound }

theorem State.afterTick_keepsSound {s : State} (early : s.BelowLimits) : KeepsSound s s.afterTick where
  time h := h.pass early.subTicks
  dh h := h.afterTick early.dhTicks
  qh h := (QhReceiver.sound_iff _).1 (((QhReceiver.sound_iff _).2 h).afterTick early.frameWatch)
  port h := (Port.sound_iff _).1 (((Port.sound_iff _).2 h).afterTick early.byteWatch)
  channel r h := by
    rw [State.channelSound, State.chan_afterTick, State.ref_congr s.afterTick_refs]
    exact ⟨h.1, (Channel.sound_iff _ _).1 (((Channel.sound_iff _ _).2 h.2).afterTick (early.edgeWatch r))⟩

theorem State.closeWatches_keepsSound (s : State) : KeepsSound s s.closeWatches where
  time h := by rwa [State.closeWatches_time]
  dh h := by rwa [State.closeWatches_dh]
  qh h := by rwa [State.closeWatches_qh]
  port h := by rwa [State.closeWatches_port]
  channel r h := by
    rw [State.channelSound, State.chan_closeWatches, State.ref_congr s.closeWatches_refs]
    exact ⟨h.1, (Channel.sound_iff _ _).1 ((Channel.sound_iff _ _).2 h.2).closeWatch⟩

theorem State.idle_keepsSound (s : State) : KeepsSound s s.idle := by
  rcases s.idle_cases_of_due with e | e | ⟨sampled, free, e⟩ <;> rw [e]
  · exact .refl s
  · exact s.closeWatches_keepsSound
  · exact State.afterTick_keepsSound (State.belowLimits sampled free)

/-! ## The commands -/

/-- An event that leaves these blocks as they are. -/
theorem eventIf_of_hardware_keepsSound {d : Bool} {s : State} {f : State → State} (h : KeepsHardware s (f s)) :
    AnswersOnly (KeepsSound s) (eventIf d s f) := eventIf_answersOnly (.refl s) fun _ => h.keepsSound

theorem execPassVisit_keepsSound (s : State) : AnswersOnly (KeepsSound s) (execPassVisit s) := by
  have advanced : KeepsHardware s { s with engine := s.engine.advance } := .of_refs rfl rfl rfl rfl rfl rfl
  refine event_answersOnly (.refl s) ?_
  split
  · exact (advanced.trans (State.regrading_keepsHardware (State.visit_shelfMove _ _).keepsHardware)).keepsSound
  · exact .refl s

theorem execRefusalMarkRunOut_keepsSound (h r : Nat) (s : State) :
    AnswersOnly (KeepsSound s) (execRefusalMarkRunOut h r s) :=
  onShelf_answersOnly fun h => onRef_answersOnly fun r => eventIf_of_hardware_keepsSound
    ((s.disarmMark_shelfMove h r).trans (State.leavePassPending_shelfMove _)).keepsHardware

theorem execPassStart_keepsSound (s : State) : AnswersOnly (KeepsSound s) (execPassStart s) :=
  eventIf_answersOnly (.refl s) fun _ => KeepsHardware.keepsSound (.of_refs rfl rfl rfl rfl rfl rfl)

theorem execDhFrameStart_keepsSound (s : State) : AnswersOnly (KeepsSound s) (execDhFrameStart s) :=
  eventIf_answersOnly (.refl s) fun _ => State.writeDh_keepsSound DhTransmitter.sound.startFrame

/-- Every command keeps each of these blocks sound. -/
theorem exec_keepsSound (c : Instr) (s : State) : AnswersOnly (KeepsSound s) (exec c s) := by
  cases c with
  | configureReference => exact takeRequest_keepsSound (named := (· == 1)) (serveConfigureReference_serves · s)
  | readReference => exact takeRequest_of_state_keepsSound (named := (· == 2)) (serveReadReference_state · s)
  | clearRestore => exact takeRequest_of_hardware_keepsSound (named := (· == 3)) (serveClearRestore_keepsHardware · s)
  | setOscillatorTrim => exact takeRequest_keepsSound (named := (· == 4)) (serveSetOscillatorTrim_serves · s)
  | loadCodePlan => exact takeRequest_of_hardware_keepsSound (named := (· == 5)) (serveLoadCodePlan_keepsHardware · s)
  | readCodePlan => exact takeRequest_of_state_keepsSound (named := (· == 6)) (serveReadCodePlan_state · s)
  | setGradeOverride =>
    exact takeRequest_of_hardware_keepsSound (named := (· == 7)) (serveSetGradeOverride_keepsHardware · s)
  | configureShelf =>
    exact takeRequest_of_hardware_keepsSound (named := (· == 8)) (serveConfigureShelf_keepsHardware · s)
  | readShelf => exact takeRequest_of_state_keepsSound (named := (· == 9)) (serveReadShelf_state · s)
  | setSelectionLimits =>
    exact takeRequest_of_hardware_keepsSound (named := (· == 10)) (serveSetSelectionLimits_keepsHardware · s)
  | switch => exact takeRequest_of_hardware_keepsSound (named := (· == 11)) (serveSwitch_keepsHardware · s)
  | lockout => exact takeRequest_of_hardware_keepsSound (named := (· == 12)) (serveLockout_keepsHardware · s)
  | hold => exact takeRequest_of_hardware_keepsSound (named := (· == 13)) (serveHold_keepsHardware · s)
  | setHighway => exact takeRequest_keepsSound (named := (· == 14)) (serveSetHighway_serves · s)
  | readHighway => exact takeRequest_keepsSound (named := (· == 15)) (serveReadHighway_serves · s)
  | injectBlock => exact takeRequest_keepsSound (named := (· == 16)) (serveInjectBlock_serves · s)
  | setReporting => exact takeRequest_of_hardware_keepsSound (named := (· == 17)) (serveSetReporting_keepsHardware · s)
  | collect => exact takeRequest_of_hardware_keepsSound (named := (· == 18)) (serveCollect_keepsHardware · s)
  | endService => exact takeRequest_of_hardware_keepsSound (named := (· == 19)) (serveEndService_keepsHardware · s)
  | setMode => exact takeRequest_keepsSound (named := (· == 20)) (serveSetMode_serves · s)
  | readStatus => exact takeRequest_of_state_keepsSound (named := (· == 21)) (serveReadStatus_state · s)
  | reset => exact takeRequest_of_state_keepsSound (named := (· == 22)) (serveReset_state · s)
  | unknownRequestType =>
    exact takeRequest_of_state_keepsSound (named := fun n => !knownType n) (serve := serveUnknownType)
      fun _ => refuse_state s .badType []
  | replyEnd => exact eventIf_answersOnly (.refl s) fun _ => s.endReply_keepsSound
  | resetPin => exact answersOnly_next (s.resetBy_keepsSound .pin)
  | byteReceived value stopHigh => exact execByteReceived_keepsSound value stopHigh s
  | byteWatchExpiry => exact eventIf_answersOnly (.refl s) fun _ => s.huntAgain_keepsSound
  | tickEvent => exact execTickEvent_keepsSound s
  | secondEvent => exact eventIf_answersOnly (.refl s) State.secondStep_keepsSound
  | edge r => exact execEdge_keepsSound r s
  | signalLost r => exact execSignalLost_keepsSound r s
  | failTimerExpiry r =>
    exact onRef_answersOnly fun r => eventIf_of_hardware_keepsSound
      (State.regrading_keepsHardware (s.enterFailed_refMove r _).keepsHardware)
  | restoreTimerExpiry r =>
    exact onRef_answersOnly fun r => eventIf_of_hardware_keepsSound (s.becomeAvailable_refMove r _).keepsHardware
  | qhFrameStart pulse => exact execQhFrameStart_keepsSound pulse s
  | frameWatchRunOut => exact execFrameWatchRunOut_keepsSound s
  | qhSync => exact execQhSync_keepsSound s
  | qhRecovered => exact execQhRecovered_keepsSound s
  | wordReceived slot bits => exact execWordReceived_keepsSound slot bits s
  | messageAgeExpiry r =>
    exact onRef_answersOnly fun r => eventIf_of_hardware_keepsSound
      (State.regrading_keepsHardware (s.goStale_keepsHardware r))
  | cardSilenceExpiry h =>
    exact onShelf_answersOnly fun h => eventIf_of_hardware_keepsSound
      (State.regrading_keepsHardware (s.goSilent_keepsHardware h))
  | acquireExpiry h =>
    exact onShelf_answersOnly fun h => eventIf_of_hardware_keepsSound
      (State.regrading_keepsHardware (s.timeOut_shelfMove h).keepsHardware)
  | holdoverAging h =>
    exact onShelf_answersOnly fun h => eventIf_of_hardware_keepsSound
      (State.regrading_keepsHardware (s.ageHoldover_shelfMove h).keepsHardware)
  | refusalMarkRunOut h r => exact execRefusalMarkRunOut_keepsSound h r s
  | passStart => exact execPassStart_keepsSound s
  | passVisit => exact execPassVisit_keepsSound s
  | passEnd => exact eventIf_of_hardware_keepsSound s.endPass_keepsHardware
  | dhFrameStart => exact execDhFrameStart_keepsSound s
  | commandBlockStart slot => exact execCommandBlockStart_keepsSound slot s
  | qualityBlockStart slot => exact execQualityBlockStart_keepsSound slot s
  | resetPinAsserted => exact answersOnly_next s.holdInReset_keepsSound

/-- Every step keeps each of these blocks sound. -/
theorem step_keepsSound {s t : State} (taken : step s = .next t) : KeepsSound s t := by
  unfold step at taken
  split at taken
  · rename_i c rest _
    have dequeued : KeepsSound s { s with pending := rest } :=
      KeepsHardware.keepsSound (.of_refs rfl rfl rfl rfl rfl rfl)
    exact dequeued.trans (exec_keepsSound c _ t taken)
  · cases taken
    exact s.idle_keepsSound

/-- Settles O54: the clocks and the outgoing highway, and the two receivers. -/
theorem everyStepKeepsClocksAndReceivers : Obligations.EveryStepKeepsClocksAndReceivers :=
  ⟨fun _ _ taken ⟨time, dh⟩ => ⟨(step_keepsSound taken).time time, (step_keepsSound taken).dh dh⟩,
    fun _ _ taken ⟨qh, port⟩ => ⟨(step_keepsSound taken).qh qh, (step_keepsSound taken).port port⟩⟩

/-- Settles O55, channel by channel. -/
theorem everyStepKeepsTheChannels : Obligations.EveryStepKeepsTheChannels :=
  fun _ _ taken sound r => (step_keepsSound taken).channel r (sound r)

end Sys2Proof.Machine

/-!
SUPPORT. TICK_EVENT and SECOND_EVENT: the timers and agings that a second event reaches.
-/

namespace Sys2Proof.Machine

open Sys2Proof

/-! ## What a second event reaches -/

theorem SecondTimer.reach_eq (now : Nat) (t : SecondTimer) : t.reach now = timerAt now t := rfl

theorem Holdover.reach_eq (c : ShelfConfig) (now : Nat) (o : Holdover) :
    o.reach c now = holdoverAt c.holdoverLimit now o := rfl

/-- The timing state at a second event, as the statement writes it out (R24, R85, R90). -/
theorem Timing.reach_eq (c : ShelfConfig) (now : Nat) (t : Timing) :
    t.reach c now = timingAt c.holdoverLimit now t := by
  rcases t with _ | ⟨r, _ | _ | _, x⟩ | _ | _ <;> rfl

theorem RefRecord.reach_eq (now : Nat) (x : RefRecord) :
    x.reach now = { x with run := { x.run with
      restoreTimer := x.run.restoreTimer.map (timerAt now)
      messageAge := x.run.messageAge.map (timerAt now) } } := rfl

theorem Admission.reach_joined (c : ShelfConfig) (now : Nat) (card : JoinedCard) :
    (Admission.joined card).reach c now
      = .joined { card with timing := timingAt c.holdoverLimit now card.timing } := by
  rw [Admission.reach, Timing.reach_eq]

theorem State.ref_secondStep (r : RefNo) (s : State) : s.secondStep.ref r = (s.ref r).reach s.secondStep.now :=
  s.secondStep_reads.2.2.2 r

theorem State.shelf_secondStep (h : ShelfNo) (s : State) :
    s.secondStep.shelf h = (s.shelf h).reach s.secondStep.now := by
  simp [State.secondStep, State.reachTimers, State.shelf, State.now, mapTable]

/-- A second event writes the clocks, the two tables and the attention line (R23, R24, R149). -/
theorem State.secondStep_eq (s : State) :
    s.secondStep = { s with
      time := s.time.second
      refs := { s.refs with records := s.secondStep.refs.records }
      engine := { s.engine with shelves := s.secondStep.engine.shelves }
      queue := s.queue.judge s.secondStep.now } := rfl

theorem State.secondStep_time (s : State) :
    s.secondStep.time
      = { s.time with secondDue := false, officeTime := min (s.time.officeTime + 1) 4294967295 } := rfl

theorem State.secondStep_queue (s : State) :
    s.secondStep.queue = { s.queue with attention := s.queue.attentionCondition s.secondStep.time.officeTime } := rfl

theorem State.secondStep_plans (s : State) :
    s.secondStep.refs.planA = s.refs.planA ∧ s.secondStep.refs.planB = s.refs.planB
      ∧ s.secondStep.refs.persistence = s.refs.persistence := by
  simp only [State.secondStep, State.reachTimers, and_self]

/-! ## The events -/

theorem execTickEvent_of_due {s : State} (running : s.resetHeld = false) (due : s.tickEventDue = true) :
    exec .tickEvent s = .next { s with time := s.time.tick } := by
  rw [exec, execTickEvent, eventIf_of_due _ s _ running due]

theorem execTickEvent_of_not_due {s : State} (h : ¬ s.tickEventDue = true) : exec .tickEvent s = .next s := by
  rw [exec, execTickEvent, eventIf_of_not_due _ s _ (by simpa using h)]

theorem execSecondEvent_of_due {s : State} (running : s.resetHeld = false) (due : s.time.secondDue = true) :
    exec .secondEvent s = .next s.secondStep := by
  rw [exec, execSecondEvent, eventIf_of_due _ s _ running due]

theorem execSecondEvent_of_not_due {s : State} (h : s.time.secondDue = false) : exec .secondEvent s = .next s := by
  rw [exec, execSecondEvent, eventIf_of_not_due _ s _ h]

/-- Settles O7, by whether each event is due. -/
theorem tickAndSecondEvents : Obligations.TickAndSecondEvents := by
  refine fun s running => ⟨fun ticks free => ?_, fun early => ?_, execSecondEvent_of_not_due, fun due => ?_⟩
  · rw [execTickEvent_of_due running (s.tickEventDue_iff.2 ⟨ticks, free⟩), TimeBase.tick, beq_eq_decide]
  · refine execTickEvent_of_not_due fun due => ?_
    obtain ⟨ticks, free⟩ := s.tickEventDue_iff.1 due
    rcases early with early | due
    · omega
    · simp [free] at due
  · obtain ⟨planA, planB, persistence⟩ := s.secondStep_plans
    refine ⟨s.secondStep, execSecondEvent_of_due running due, s.secondStep_time, fun r => ?_, fun h => ?_,
      s.secondStep_queue, planA, planB, persistence, s.secondStep_eq⟩
    · rw [State.ref_secondStep, RefRecord.reach_eq]
      rfl
    · rw [State.shelf_secondStep, Shelf.reach]
      rcases (s.shelf h).admission with _ | _ | card
      · rfl
      · rfl
      · rw [Admission.reach_joined]
        rfl

end Sys2Proof.Machine

/-!
SUPPORT. A step on an empty queue: when it closes samples, waits or passes a measurement tick, and what a tick does.
-/

namespace Sys2Proof.Machine

open Sys2Proof

/-! ## Which of them it does -/

theorem step_of_empty {s : State} (empty : s.pending = []) : step s = .next s.idle := by
  rw [step, empty]

theorem State.idle_of_held {s : State} (held : s.resetHeld = true) : s.idle = s := by
  simp [State.idle, held]

theorem State.idle_of_full {s : State} (running : s.resetHeld = false) (full : s.watchesFull = true) :
    s.idle = s.closeWatches := by
  simp [State.idle, running, full]

theorem State.idle_of_due {s : State} (running : s.resetHeld = false) (sampled : s.watchesFull = false)
    (due : s.timeEventDue = true) : s.idle = s := by
  simp [State.idle, running, sampled, due]

theorem State.idle_of_passing {s : State} (running : s.resetHeld = false) (sampled : s.watchesFull = false)
    (free : s.timeEventDue = false) : s.idle = s.afterTick := by
  simp [State.idle, running, sampled, free]

theorem Channel.watchFull_eq (c : Channel) :
    c.watchFull = (c.present && decide (10000 ≤ c.edgeWatch) && !c.sampleClosed) := rfl

theorem Channel.watchFull_iff (c : Channel) :
    c.watchFull = true ↔ c.present = true ∧ 10000 ≤ c.edgeWatch ∧ c.sampleClosed = false := by
  rw [Channel.watchFull_eq]
  simp [and_assoc]

theorem State.watchesFull_of_sampled {s : State}
    (h : ∀ r : RefNo, (s.chan r).present = true → (s.chan r).edgeWatch < 10000 ∨ (s.chan r).sampleClosed = true) :
    s.watchesFull = false := by
  rw [← Bool.not_eq_true, State.watchesFull_iff]
  rintro ⟨r, full⟩
  obtain ⟨present, limit, opened⟩ := (Channel.watchFull_iff _).1 full
  rcases h r present with early | closed
  · omega
  · simp [opened] at closed

/-! ## What it does to each part -/

/-- The sample of a channel at its limit is closed, and every other channel is left (R28; log 33). -/
theorem Channel.closeWatch_eq (c : Channel) :
    c.closeWatch = { c with sampleClosed := c.sampleClosed || (c.present && decide (10000 ≤ c.edgeWatch)) } := by
  rcases c with ⟨present, high, now, watch, closed, gate, raw, saturated, filtered, freq⟩
  by_cases full : (present && decide (10000 ≤ watch)) = true
  · cases closed <;> simp [Channel.closeWatch, Channel.watchFull_eq, full]
  · cases closed <;> simp [Channel.closeWatch, Channel.watchFull_eq, Bool.eq_false_iff.2 full]

theorem Channel.afterTick_eq (c : Channel) :
    c.afterTick = { c with
      pinHigh := c.pinNow
      pinNow := false
      sampleClosed := false
      edgeWatch := c.edgeWatch + (if c.present then 1 else 0)
      gate := c.gate.map fun g => ⟨g.edges, g.ticks + 1⟩ } := by
  unfold Channel.afterTick
  cases c.present <;> rfl

theorem DhTransmitter.nextPosition_eq (d : DhTransmitter) :
    d.nextPosition = if d.frame = none then d.position else min 384 (1 + (d.ticks + 1) * 384 / 2500) := by
  unfold DhTransmitter.nextPosition
  cases d.frame <;> rfl

/-- A slot that its frame brings to a bit, as the statement writes it out (R136). -/
theorem DhSlot.atBit_eq (n : SlotNo) (bit : Nat) (x : DhSlot) : x.atBit (slotFirstBit n) bit = slotAt n bit x := by
  have first : slotFirstBit n = 8 * n.val + 1 := rfl
  rcases x with ⟨_ | b, _ | w⟩
  · rfl
  · rfl
  · simp only [DhSlot.atBit, slotAt]
    by_cases early : bit < 8 * n.val + 1
    · rw [if_pos early, if_neg (by omega)]
    · rw [if_neg early, if_pos (by omega)]
  · simp only [DhSlot.atBit, slotAt]
    by_cases going : b.sent < b.words.length ∨ bit ≤ 8 * n.val + 8
    · rw [if_pos going, if_neg (by omega)]
    · rw [if_neg going, if_pos (by omega)]

theorem Sending.afterTick_eq (x : Sending) :
    x.afterTick = if x.elapsed + 18 < 15625 then ⟨x.bytes, x.elapsed + 18, x.resetAtEnd⟩
      else ⟨x.bytes.drop 1, x.elapsed + 18 - 15625, x.resetAtEnd⟩ := by
  unfold Sending.afterTick Config.byteTime Config.byteTimePerTick
  by_cases early : x.elapsed + 18 < 15625
  · rw [if_pos early, if_neg (Nat.not_le_of_lt early)]
  · rw [if_neg early, if_pos (Nat.le_of_not_lt early), List.drop_one]

theorem State.afterTick_counts (s : State) :
    s.afterTick.time = { s.time with subTicks := s.time.subTicks + 1 } ∧ s.afterTick.monitor.trim = s.monitor.trim
      ∧ s.afterTick.qh = { s.qh with framing := s.qh.framing.map fun f => { f with watch := f.watch + 1 } }
      ∧ s.afterTick.dh = s.dh.afterTick := by
  simp only [State.afterTick, and_self]

theorem State.afterTick_port (s : State) :
    s.afterTick.port = { s.port with
      transmit := s.port.transmit.map fun x =>
        if x.elapsed + 18 < 15625 then ⟨x.bytes, x.elapsed + 18, x.resetAtEnd⟩
        else ⟨x.bytes.drop 1, x.elapsed + 18 - 15625, x.resetAtEnd⟩
      byteWatch := s.port.byteWatch + (if s.port.receive = .hunt then 0 else 1) } := by
  have watch : (if s.port.receive = .hunt then s.port.byteWatch else s.port.byteWatch + 1)
      = s.port.byteWatch + (if s.port.receive = .hunt then 0 else 1) := by split <;> rfl
  simp only [State.afterTick, watch, ← Sending.afterTick_eq]

theorem State.dhSlot_afterTick (n : SlotNo) (s : State) :
    s.afterTick.dhSlot n = slotAt n s.dh.nextPosition (s.dhSlot n) := by
  rw [← DhSlot.atBit_eq]
  simp [State.afterTick, State.dhSlot, DhTransmitter.afterTick]

/-- Settles O2, by what State.idle does: nothing in reset, the samples closed, nothing while an event is due, or a
tick. -/
theorem emptyQueuePassesOneMeasurementTick : Obligations.EmptyQueuePassesOneMeasurementTick := by
  intro s empty
  rw [step_of_empty empty]
  refine ⟨fun held => ?_, fun running ⟨r, present, limit, opened⟩ => ?_, fun running sampled due => ?_,
    fun running sampled free => ?_⟩
  · rw [State.idle_of_held held]
  · have full := s.watchesFull_iff.2 ⟨r, (Channel.watchFull_iff _).2 ⟨present, limit, opened⟩⟩
    refine ⟨s.closeWatches, by rw [State.idle_of_full running full], fun r => ?_, rfl⟩
    rw [State.chan_closeWatches, Channel.closeWatch_eq]
  · rw [State.idle_of_due running (State.watchesFull_of_sampled sampled) due]
  · obtain ⟨time, trim, qh, dh⟩ := s.afterTick_counts
    refine ⟨s.afterTick, by rw [State.idle_of_passing running (State.watchesFull_of_sampled sampled) free], time, trim,
      fun r => ?_, qh, ?_, fun n => ?_, s.afterTick_port, s.afterTick_refs, s.afterTick_engine, s.afterTick_queue, ?_,
      ?_⟩
    · rw [State.chan_afterTick, Channel.afterTick_eq]
    · rw [dh, ← DhTransmitter.nextPosition_eq]
      rfl
    · rw [State.dhSlot_afterTick, dh]
      rfl
    · rw [State.afterTick_resetHeld, running]
    · rw [State.afterTick_pending, empty]

end Sys2Proof.Machine

/-!
SUPPORT. What a change of a defect input does in one event: the reference, the shelves, the reports and the grades
handed on.
-/

namespace Sys2Proof.Machine

open Sys2Proof

/-! ## What the grades of two states rest on -/

/-- The clocks, the Reference Unit and the Selection Engine are as they were. -/
structure SameTables (s t : State) : Prop where
  time : t.time = s.time
  refs : t.refs = s.refs
  engine : t.engine = s.engine

theorem SameTables.now {s t : State} (a : SameTables s t) : t.now = s.now := by unfold State.now; rw [a.time]

theorem SameTables.ref {s t : State} (a : SameTables s t) (r : RefNo) : t.ref r = s.ref r := State.ref_congr a.refs r

theorem SameTables.shelf {s t : State} (a : SameTables s t) (h : ShelfNo) : t.shelf h = s.shelf h := by
  unfold State.shelf; rw [a.engine]

theorem SameTables.sameMasks {s t : State} (a : SameTables s t) : SameMasks s t :=
  ⟨a.now, fun r => by rw [a.ref], fun h => by rw [a.shelf]⟩

theorem SameTables.effectiveGrade {s t : State} (a : SameTables s t) (r : RefNo) :
    t.effectiveGrade r = s.effectiveGrade r := State.effectiveGrade_congr a.refs a.shelf r

/-- Grades that changed are counted from states of equal tables alike. -/
theorem SameTables.gradeReports {s t : State} (a : SameTables s t) (u : State) :
    gradeReports t u = gradeReports s u := by
  simp only [Machine.gradeReports, State.regraded, a.effectiveGrade]

theorem SameTables.regraded_eq_nil {s t : State} (a : SameTables s t) : s.regraded t = [] := by
  simp [State.regraded, a.effectiveGrade]

/-- Nothing is handed on where no table has changed. -/
theorem SameTables.handOnGrades {s t : State} (a : SameTables s t) : s.handOnGrades t = t := by
  rw [State.handOnGrades, a.regraded_eq_nil, List.foldl_nil]

theorem State.setChan_sameTables (r : RefNo) (c : Channel) (s : State) : SameTables s (s.setChan r c) := ⟨rfl, rfl, rfl⟩

theorem SameTables.trans {s t u : State} (a : SameTables s t) (b : SameTables t u) : SameTables s u :=
  ⟨b.time.trans a.time, b.refs.trans a.refs, b.engine.trans a.engine⟩

theorem State.post_sameTables (rep : Report) (s : State) : SameTables s (s.post rep) :=
  ⟨s.post_time rep, s.post_refs rep, s.post_engine rep⟩

/-! ## A change of a defect input is taken -/

theorem State.takeDefect_of_same {before s : State} {r : RefNo} (same : before.defect r = s.defect r) :
    before.takeDefect r s = s := by
  unfold State.takeDefect
  split
  · rfl
  · rw [same]
    cases s.defect r <;> rfl

/-- The three things that taking a change of a defect input comes to: nothing, a reference that enters FAILED, and one
that goes to another availability (section 1.8). -/
inductive DefectMove (r : RefNo) (b a : Bool) (s : State) : State → Prop
  | stays (running : entersFailed (s.ref r) b a = false) (silent : availabilityReports r (s.ref r) b a = []) :
    DefectMove r b a s s
  | fails (d : FailDetail) (enters : entersFailed (s.ref r) b a = true)
    (posted : availabilityReports r (s.ref r) b a = [.refFailed r d]) : DefectMove r b a s (s.enterFailed r d)
  | moves {u : State} (x : Availability) (fail : Option Nat) (restore : Option SecondTimer) (rep : Report)
    (start : u = s ∨ u = s.setRun r fun run => { run with firstQualification := false })
    (running : entersFailed (s.ref r) b a = false) (posted : availabilityReports r (s.ref r) b a = [rep])
    (other : x ≠ (s.ref r).run.availability) :
    DefectMove r b a s ((u.setAvailability r x fail restore).post rep)

theorem State.defectBegins_move {s : State} {r : RefNo} (used : (s.ref r).cfg.kind ≠ .unused) :
    DefectMove r false true s (s.defectBegins r) := by
  unfold State.defectBegins
  rcases a : (s.ref r).run.availability with _ | _ | _ | _
  case available =>
    by_cases immediate : (s.ref r).cfg.failDelay = 0
    · simp only [immediate, if_true]
      exact .fails .immediate (by simp [entersFailed, runAfter, used, a, immediate])
        (by simp [availabilityReports, used, a, immediate])
    · simp only [immediate, if_false]
      exact .moves _ _ _ _ (.inl rfl) (by simp [entersFailed, runAfter, used, a, immediate])
        (by simp [availabilityReports, used, a, immediate]) (by simp [a])
  case failing => exact .stays (by simp [entersFailed, runAfter, a]) (by simp [availabilityReports, a])
  case failed => exact .stays (by simp [entersFailed, a]) (by simp [availabilityReports, a])
  case restoring =>
    exact .fails .restoring (by simp [entersFailed, runAfter, used, a]) (by simp [availabilityReports, used, a])

theorem State.defectEnds_move {s : State} {r : RefNo} (used : (s.ref r).cfg.kind ≠ .unused) :
    DefectMove r true false s (s.defectEnds r) := by
  unfold State.defectEnds
  rcases a : (s.ref r).run.availability with _ | _ | _ | _
  case available => exact .stays (by simp [entersFailed, runAfter, a]) (by simp [availabilityReports, a])
  case failing =>
    exact .moves _ _ _ _ (.inl rfl) (by simp [entersFailed, runAfter, used, a])
      (by simp [availabilityReports, used, a]) (by simp [a])
  case failed =>
    have running : entersFailed (s.ref r) true false = false := by simp [entersFailed, a]
    dsimp only
    split_ifs with first immediate
    · exact .moves _ _ _ _ (.inr rfl) running (by simp [availabilityReports, used, a, first]) (by simp [a])
    · exact .moves _ _ _ _ (.inl rfl) running (by simp [availabilityReports, used, a, first, immediate]) (by simp [a])
    · exact .moves _ _ _ _ (.inl rfl) running (by simp [availabilityReports, used, a, first, immediate]) (by simp [a])
  case restoring => exact .stays (by simp [entersFailed, runAfter, a]) (by simp [availabilityReports, a])

theorem State.takeDefect_move (before : State) (r : RefNo) (s : State) :
    DefectMove r (before.defect r) (s.defect r) s (before.takeDefect r s) := by
  have same (d : Bool) : DefectMove r d d s s :=
    .stays (by simp [entersFailed, runAfter_same]) (by cases d <;> simp [availabilityReports])
  unfold State.takeDefect
  by_cases unused : (s.ref r).cfg.kind = .unused
  · rw [if_pos unused]
    exact .stays (by simp [entersFailed, runAfter, unused]) (by simp [availabilityReports, unused])
  · rw [if_neg unused]
    rcases before.defect r with _ | _ <;> rcases s.defect r with _ | _
    · exact same false
    · exact State.defectBegins_move unused
    · exact State.defectEnds_move unused
    · exact same true

/-- The reports of a change of the defect condition, but for those of grades (sections 1.8 and 6.4). -/
def defectReports (s : State) (r : RefNo) (b a : Bool) : List Report :=
  availabilityReports r (s.ref r) b a
    ++ if entersFailed (s.ref r) b a then allShelves.flatMap (offReports s r) else []

theorem DefectMove.shelf {r : RefNo} {b a : Bool} {s t : State} (move : DefectMove r b a s t) (h : ShelfNo) :
    t.shelf h = if entersFailed (s.ref r) b a then shelfOff s r h else s.shelf h := by
  cases move with
  | stays running _ => rw [running]; rfl
  | fails d enters _ => rw [enters, State.shelf_enterFailed]; rfl
  | moves _ _ _ _ start running _ _ =>
    rw [running, State.shelf_post]
    rcases start with rfl | rfl <;> rfl

theorem DefectMove.posts {r : RefNo} {b a : Bool} {s t : State} (move : DefectMove r b a s t) :
    Posts (defectReports s r b a) s t := by
  unfold defectReports
  cases move with
  | stays running silent =>
    rw [running, silent]
    exact (SameMasks.refl s).posts_nil rfl
  | fails d enters posted =>
    rw [enters, posted]
    exact s.enterFailed_posts r d
  | moves x fail restore rep start running posted _ =>
    rw [running, posted]
    have cleared := (s.clearFirst_refMove r).sameMasks.posts_nil rfl
    rcases start with rfl | rfl
    · exact (State.setAvailability_posts r x fail restore _).trans (State.post_posts rep _)
    · exact (cleared.trans (State.setAvailability_posts r x fail restore _)).trans (State.post_posts rep _)

theorem entersFailed_running {x : RefRecord} {b a : Bool} (h : entersFailed x b a = true) :
    x.run.availability ≠ .failed := by
  simp only [entersFailed, Bool.and_eq_true, decide_eq_true_eq] at h
  exact h.1

/-- A pass is left pending exactly where the availability changes (R21). -/
theorem DefectMove.passPending {r : RefNo} {b a : Bool} {s t : State} (move : DefectMove r b a s t) :
    t.engine.passPending
      = (s.engine.passPending || decide ((t.ref r).run.availability ≠ (s.ref r).run.availability)) := by
  cases move with
  | stays _ _ => simp
  | fails d enters _ =>
    have running := Ne.symm (entersFailed_running enters)
    simp [State.enterFailed_passPending, running]
  | moves x fail restore rep start _ _ other =>
    rcases start with rfl | rfl <;> simp [State.setAvailability, other]

/-! ## The event -/

/-- The defect condition after a move of the reference is the one it moved for. -/
theorem RefMove.defect {r : RefNo} {s t : State} (a : RefMove r s t) : t.defect r = s.defect r :=
  State.defect_congr (by simp only [State.chan, a.monitor]) (by simp only [State.chan, a.monitor]) a.cardDefect

/-- A defect input of ref r has changed, with reports posted before it: what the event leaves of the reference, the
shelves, the pass and the reports once the change is taken and the grades are handed on. -/
theorem State.defectOutcome {r : RefNo} {s before u : State} {earlier : List Report} (start : SameTables s before)
    (tables : SameTables s u) (posted : Posts earlier s u) :
    ((before.handOnGrades (before.takeDefect r u)).ref r).run
        = runAfter (s.ref r) s.time.tickCount s.now (before.defect r) (u.defect r)
      ∧ DefectOutcome r earlier (before.defect r) (u.defect r) s (before.handOnGrades (before.takeDefect r u))
      ∧ KeepsLists s (before.handOnGrades (before.takeDefect r u)) := by
  have taken := before.takeDefect_move r u
  have handed := before.handOnGrades_posts (before.takeDefect r u)
  have run : ((before.handOnGrades (before.takeDefect r u)).ref r).run
      = runAfter (s.ref r) s.time.tickCount s.now (before.defect r) (u.defect r) := by
    rw [(before.handOnGrades_shelfMove _).ref, State.ref_takeDefect_same, tables.ref, tables.time, tables.now]
  have shelf (h : ShelfNo) : (before.handOnGrades (before.takeDefect r u)).shelf h
      = if entersFailed (s.ref r) (before.defect r) (u.defect r) then shelfOff s r h else s.shelf h := by
    rw [State.handOnGrades_shelf, taken.shelf, tables.ref, tables.shelf, shelfOff_congr tables.now (tables.shelf h)]
  have reports : gradeReports s (before.handOnGrades (before.takeDefect r u))
      = gradeReports before (before.takeDefect r u) := by
    rw [← start.gradeReports, gradeReports_handOnGrades]
  have off : offReports u r = offReports s r := funext fun h => offReports_congr tables.now (tables.shelf h) r
  refine ⟨run, ⟨by rw [run], by rw [run], by rw [run], by rw [run], shelf, ?_, ?_⟩, fun h => ?_⟩
  · rw [State.handOnGrades_passPending, taken.passPending, tables.engine, tables.ref, reports,
      (before.handOnGrades_shelfMove _).ref]
  · rw [((posted.trans taken.posts).trans handed).queue, reports, defectReports, tables.ref, off, List.append_assoc,
      List.append_assoc, List.append_assoc, List.append_assoc]
  · rw [shelf]
    split
    · exact shelfOff_keeps s r h
    · exact ⟨rfl, rfl⟩

end Sys2Proof.Machine

/-!
SUPPORT. EDGE and SIGNAL_LOST: the edges that start or go on with a gate, the edge that ends one, and the loss of a
signal.
-/

namespace Sys2Proof.Machine

open Sys2Proof

/-! ## When the commands take place -/

theorem execEdge_of_open {s : State} {r : RefNo} (running : s.resetHeld = false) (low : (s.chan r).pinNow = false)
    (opened : (s.chan r).sampleClosed = false) :
    exec (.edge r.val) s = .next (if (s.chan r).pinHigh then s.samplePin r else s.edgeEvent r) := by
  rw [exec, execEdge_cases r s running, if_pos ((s.chan r).sampleOpen_iff.2 ⟨low, opened⟩)]

theorem execEdge_of_closed {s : State} {r : RefNo} (running : s.resetHeld = false)
    (shut : (s.chan r).pinNow = true ∨ (s.chan r).sampleClosed = true) : exec (.edge r.val) s = .next s := by
  rw [exec, execEdge_cases r s running, if_neg]
  rw [Channel.sampleOpen_iff]
  rcases shut with high | closed
  · simp [high]
  · simp [closed]

theorem execEdge_of_rise {s : State} {r : RefNo} (running : s.resetHeld = false) (low : (s.chan r).pinNow = false)
    (opened : (s.chan r).sampleClosed = false) (before : (s.chan r).pinHigh = false) :
    exec (.edge r.val) s = .next (s.edgeEvent r) := by
  simp [execEdge_of_open running low opened, before]

theorem State.signalLossDue_iff (s : State) (r : RefNo) :
    s.signalLossDue r = true
      ↔ (s.chan r).present = true ∧ 10000 ≤ (s.chan r).edgeWatch ∧ (s.chan r).sampleClosed = true := by
  rw [State.signalLossDue, Bool.and_eq_true, Channel.atWatchLimit_iff, and_assoc]

theorem execSignalLost_of_due {s : State} {r : RefNo} (running : s.resetHeld = false)
    (due : s.signalLossDue r = true) : exec (.signalLost r.val) s = .next (s.loseSignal r) := by
  rw [exec, execSignalLost, onRef_of_lt r.val r.isLt]
  exact eventIf_of_due _ s _ running due

theorem execSignalLost_of_not_due {s : State} {r : RefNo} (h : ¬ s.signalLossDue r = true) :
    exec (.signalLost r.val) s = .next s := by
  rw [exec, execSignalLost, onRef_of_lt r.val r.isLt]
  exact eventIf_of_not_due _ s _ (by simpa using h)

/-! ## The state an edge leaves -/

/-- The channel of an edge once its sample is in. -/
theorem State.chan_samplePin_same (r : RefNo) (s : State) :
    (s.samplePin r).chan r = { s.chan r with pinNow := true } := by
  rw [State.chan_samplePin, if_pos rfl]

theorem State.samplePin_sameTables (r : RefNo) (s : State) : SameTables s (s.samplePin r) := ⟨rfl, rfl, rfl⟩

theorem State.defect_samplePin (r : RefNo) (s : State) : (s.samplePin r).defect r = s.defect r :=
  State.defect_congr (by rw [State.chan_samplePin_same]) (by rw [State.chan_samplePin_same]) rfl

/-- The edge event: the channel, REF_FREQ where the frequency state changes, the defect condition, the grades. -/
theorem State.edgeEvent_eq (r : RefNo) (s : State) :
    s.edgeEvent r = (s.samplePin r).handOnGrades ((s.samplePin r).takeDefect r
      ((s.setChan r ((s.samplePin r).channelAfterEdge r)).postFreq r (s.chan r).freq
        ((s.samplePin r).channelAfterEdge r).freq)) := by
  have written : (s.samplePin r).setChan r ((s.samplePin r).channelAfterEdge r)
      = s.setChan r ((s.samplePin r).channelAfterEdge r) := s.setChan_setChan r _ _
  rw [State.edgeEvent, State.regrading, State.takeEdge_eq, written, State.chan_samplePin_same]

/-- An edge that changes neither the frequency state nor the defect condition writes its channel alone. -/
theorem State.edgeEvent_of_quiet {s : State} {r : RefNo} {c : Channel}
    (channel : (s.samplePin r).channelAfterEdge r = c)
    (freq : c.freq = (s.chan r).freq) (defect : (s.setChan r c).defect r = s.defect r) :
    s.edgeEvent r = s.setChan r c := by
  have same : (s.samplePin r).defect r = (s.setChan r c).defect r := (s.defect_samplePin r).trans defect.symm
  have tables : SameTables (s.samplePin r) (s.setChan r c) := ⟨rfl, rfl, rfl⟩
  rw [State.edgeEvent_eq, channel, freq, State.postFreq_same, State.takeDefect_of_same same, tables.handOnGrades]

theorem State.defect_setChan (r : RefNo) (c : Channel) (s : State) :
    (s.setChan r c).defect r
      = (!c.present || c.freq == .unmeasured || c.freq == .outOfRange || (s.ref r).run.cardDefect) := by
  rw [State.defect, State.chan_setChan_same, State.ref_setChan]

/-- The edge that finds the signal LOST returns it; the defect stands until a gate completes (R13, R29). -/
theorem State.edgeEvent_of_lost {s : State} {r : RefNo} (lost : (s.chan r).present = false)
    (unmeasured : (s.chan r).freq = .unmeasured) :
    s.edgeEvent r = s.setChan r { s.chan r with
      present := true
      pinNow := true
      edgeWatch := 0
      gate := some ⟨0, 0⟩ } := by
  have channel := State.channelAfterEdge_of_lost (s := s.samplePin r) (r := r) (by rw [State.chan_samplePin_same, lost])
  rw [State.chan_samplePin_same] at channel
  refine State.edgeEvent_of_quiet channel rfl ?_
  rw [State.defect_setChan, State.defect]
  simp [lost, unmeasured]

/-- An edge inside a gate is counted (R27, R30). -/
theorem State.edgeEvent_of_inside {s : State} {r : RefNo} {g : Gate} (present : (s.chan r).present = true)
    (gate : (s.chan r).gate = some g) (inside : g.edges + 1 < 8000 * (s.ref r).cfg.gateLength) :
    s.edgeEvent r = s.setChan r { s.chan r with
      pinNow := true
      edgeWatch := 0
      gate := some ⟨g.edges + 1, g.ticks⟩ } := by
  have going : ((s.samplePin r).chan r).endingCount ((s.samplePin r).ref r).cfg = none := by
    rw [Channel.endingCount_eq_none_iff, State.chan_samplePin_same]
    intro x e
    obtain rfl : g = x := Option.some.inj (gate.symm.trans e)
    exact inside
  have channel := State.channelAfterEdge_of_inside (by rw [State.chan_samplePin_same]; exact present) going
  have counted : ((s.samplePin r).chan r).countEdge
      = { s.chan r with pinNow := true, edgeWatch := 0, gate := some ⟨g.edges + 1, g.ticks⟩ } := by
    rw [State.chan_samplePin_same]
    simp [Channel.countEdge, gate]
  refine State.edgeEvent_of_quiet (channel.trans counted) rfl ?_
  rw [State.defect_setChan, State.defect]

/-! ## The loss of a signal -/

/-- What a channel's own event leaves as it was, where it moves its reference (R13, R94). -/
theorem RefMove.keeps_of_setChan {r : RefNo} {c : Channel} {s t : State} (move : RefMove r (s.setChan r c) t) :
    t.chan r = c ∧ KeepsSettings s t ∧ KeepsIncoming s t ∧ KeepsOtherRefs r s t := by
  refine ⟨?_, move.keepsSettings, move.keepsIncoming, fun q other => ⟨move.others q other, ?_⟩⟩
  · rw [State.chan, move.monitor]
    exact State.chan_setChan_same r c s
  · rw [(move.keepsOtherRefs q other).2, State.chan_setChan, if_neg (Ne.symm other)]

theorem State.loseSignal_outcome (s : State) (r : RefNo) :
    ((s.loseSignal r).ref r).run = runAfter (s.ref r) s.time.tickCount s.now (s.defect r) true
      ∧ DefectOutcome r [] (s.defect r) true s (s.loseSignal r) ∧ KeepsLists s (s.loseSignal r) := by
  have tables := s.setChan_sameTables r (s.chan r).lose
  have defect : (s.setChan r (s.chan r).lose).defect r = true := by simp [State.defect_setChan, Channel.lose]
  have outcome := State.defectOutcome (r := r) ⟨rfl, rfl, rfl⟩ tables (tables.sameMasks.posts_nil rfl)
  rw [defect] at outcome
  exact outcome

/-- Settles O8: edges by what the channel holds, and the loss by the change of the defect condition. -/
theorem signalsReturnAndAreLost : Obligations.SignalsReturnAndAreLost := by
  refine ⟨fun s r running => ⟨execEdge_of_closed running, ?_, ?_, ?_⟩, fun s r running => ⟨?_, ?_⟩⟩
  · intro low opened before
    simp [execEdge_of_open running low opened, before, State.samplePin]
  · intro low opened before lost unmeasured
    rw [execEdge_of_rise running low opened before, State.edgeEvent_of_lost lost unmeasured]
  · intro g low opened before present gate inside
    rw [execEdge_of_rise running low opened before, State.edgeEvent_of_inside present gate inside]
  · intro present limit closed
    obtain ⟨chan, settings, incoming, others⟩ := (s.loseSignal_refMove r).keeps_of_setChan
    obtain ⟨run, outcome, lists⟩ := s.loseSignal_outcome r
    refine ⟨s.loseSignal r, execSignalLost_of_due running ((s.signalLossDue_iff r).2 ⟨present, limit, closed⟩), ?_⟩
    rw [chan]
    exact ⟨rfl, rfl, rfl, rfl, rfl, rfl, closed, rfl, rfl, run, outcome, settings, incoming, others, lists⟩
  · intro early
    refine execSignalLost_of_not_due fun due => ?_
    obtain ⟨present, limit, closed⟩ := (s.signalLossDue_iff r).1 due
    rcases early with lost | few | opened
    · simp [lost] at present
    · omega
    · simp [opened] at closed

/-! ## The end of a gate -/

/-- The unclamped raw offset of a measured count (R31). -/
theorem rawOffset_eq (g ticks : Nat) :
    rawOffset g ticks = (20000000 * (g : Int) - (ticks : Int)) * ((200 / g : Nat) : Int) := by
  simp [rawOffset]

/-- A completed gate's channel, its values written out one after another (R30 to R37). -/
theorem Channel.complete_eq (c : Channel) (cfg : RefConfig) (trim : Int) (ticks : Nat)
    {unclamped raw adjusted f : Int} {saturated : Bool} {q : FreqState}
    (hunclamped : unclamped
      = (20000000 * (cfg.gateLength : Int) - (ticks : Int)) * ((200 / cfg.gateLength : Nat) : Int))
    (hraw : raw = max (-400000) (min 400000 unclamped))
    (hadjusted : adjusted = max (-400000) (min 400000 (raw + trim)))
    (hsaturated : saturated = (decide (400000 < unclamped.natAbs) || decide (400000 < (raw + trim).natAbs)))
    (hf : f = newFiltered c saturated adjusted cfg.filterShift)
    (hq : q = qualify c.freq saturated f cfg.pullLimit cfg.hysteresis) :
    c.complete cfg trim ticks = { c with
      edgeWatch := 0
      gate := some ⟨0, 0⟩
      lastRaw := some raw
      saturated := saturated
      filtered := some f
      freq := q } := by
  rw [← rawOffset_eq] at hunclamped
  rw [← clampOffset_eq] at hraw hadjusted
  rw [← beyondOffset_eq, ← beyondOffset_eq] at hsaturated
  subst hq hf hsaturated hadjusted hraw hunclamped
  rfl

theorem State.postFreq_sameTables (r : RefNo) (before after : FreqState) (s : State) :
    SameTables s (s.postFreq r before after) := by
  unfold State.postFreq
  split
  · exact ⟨rfl, rfl, rfl⟩
  · exact s.post_sameTables _

/-- REF_FREQ is posted where the frequency state changes (R38). -/
theorem State.postFreq_posts (r : RefNo) (before after : FreqState) (s : State) :
    Posts (if before = after then [] else [.refFreq r (after == .inRange)]) s (s.postFreq r before after) := by
  unfold State.postFreq
  split
  · exact (SameMasks.refl s).posts_nil rfl
  · exact s.post_posts _

/-- What the edge that ends a gate leaves: the channel, the reference, the shelves, the reports and all that stays
(R30, R38, R39). -/
theorem State.edgeEvent_of_ending {s : State} {r : RefNo} {g : Gate} (present : (s.chan r).present = true)
    (gate : (s.chan r).gate = some g) (ending : 8000 * (s.ref r).cfg.gateLength ≤ g.edges + 1) {c : Channel}
    (channel : ({ s.chan r with pinNow := true } : Channel).complete (s.ref r).cfg s.monitor.trim g.ticks = c) :
    (s.edgeEvent r).chan r = c
      ∧ ((s.edgeEvent r).ref r).run
        = runAfter (s.ref r) s.time.tickCount s.now (s.defect r) ((s.edgeEvent r).defect r)
      ∧ DefectOutcome r (if (s.chan r).freq = c.freq then [] else [.refFreq r (c.freq == .inRange)]) (s.defect r)
        ((s.edgeEvent r).defect r) s (s.edgeEvent r)
      ∧ KeepsSettings s (s.edgeEvent r) ∧ KeepsIncoming s (s.edgeEvent r) ∧ KeepsOtherRefs r s (s.edgeEvent r)
      ∧ KeepsLists s (s.edgeEvent r) := by
  have after : (s.samplePin r).channelAfterEdge r = c := by
    have count : ((s.samplePin r).chan r).endingCount ((s.samplePin r).ref r).cfg = some g.ticks :=
      Channel.endingCount_of_ending (by rw [State.chan_samplePin_same]; exact gate) ending
    rw [State.channelAfterEdge_of_ending (by rw [State.chan_samplePin_same]; exact present) count,
      State.chan_samplePin_same]
    exact channel
  have move := s.edgeEvent_refMove r
  have event := s.edgeEvent_eq r
  rw [after] at move event
  obtain ⟨chan, settings, incoming, others⟩ := move.keeps_of_setChan
  have written := s.setChan_sameTables r c
  have tables := written.trans ((s.setChan r c).postFreq_sameTables r (s.chan r).freq c.freq)
  have posts := (written.sameMasks.posts_nil rfl).trans ((s.setChan r c).postFreq_posts r (s.chan r).freq c.freq)
  have defect := move.defect.trans (((s.setChan r c).postFreq_shelfMove r (s.chan r).freq c.freq).refMove r).defect.symm
  obtain ⟨run, outcome, lists⟩ := State.defectOutcome (r := r) (s.samplePin_sameTables r) tables posts
  rw [State.defect_samplePin, ← defect] at run outcome
  rw [← event] at run outcome lists
  exact ⟨chan, run, outcome, settings, incoming, others, lists⟩

/-- Settles O9: the channel by the arithmetic of the gate, the rest by the change of the defect condition. -/
theorem endingEdgeCompletesTheGate : Obligations.EndingEdgeCompletesTheGate := by
  intro s r g unclamped raw adjusted f saturated q running low before present opened gate ending hunclamped hraw
    hadjusted hsaturated hf hq
  have channel := Channel.complete_eq { s.chan r with pinNow := true } (s.ref r).cfg s.monitor.trim g.ticks hunclamped
    hraw hadjusted hsaturated (hf.trans (newFiltered_eq _ _ _ _).symm) hq
  obtain ⟨chan, effect⟩ := State.edgeEvent_of_ending present gate ending channel
  refine ⟨s.edgeEvent r, execEdge_of_rise running low opened before, ?_, effect⟩
  rw [chan, present, before, opened]

theorem Channel.complete_qualifies (c : Channel) (cfg : RefConfig) (trim : Int) (ticks : Nat) :
    ∃ f, (c.complete cfg trim ticks).filtered = some f
      ∧ (c.complete cfg trim ticks).freq
        = qualify c.freq (c.complete cfg trim ticks).saturated f cfg.pullLimit cfg.hysteresis :=
  ⟨_, rfl, rfl⟩

/-- Settles O11, by the lines of the qualification table. -/
theorem gateQualification : Obligations.GateQualification := by
  intro s r g running low before present opened gate ending
  obtain ⟨chan, -⟩ := State.edgeEvent_of_ending present gate ending rfl
  obtain ⟨f, filtered, freq⟩ := Channel.complete_qualifies { s.chan r with pinNow := true } (s.ref r).cfg s.monitor.trim
    g.ticks
  rw [← chan] at filtered freq
  refine ⟨s.edgeEvent r, f, execEdge_of_rise running low opened before, filtered, fun saturated => ?_,
    fun unsaturated fresh outside => ?_, fun unsaturated fresh inside => ?_, fun unsaturated away inside => ?_,
    fun unsaturated away outside => ?_, ?_⟩
  all_goals rw [freq]
  · rw [saturated, qualify_saturated]
  · rw [unsaturated, qualify_of_fresh fresh, if_neg (Nat.not_le_of_lt outside)]
  · rw [unsaturated, qualify_of_fresh fresh, if_pos inside]
  · rw [unsaturated, away, qualify_of_outOfRange, if_pos inside]
  · rw [unsaturated, away, qualify_of_outOfRange, if_neg (Int.not_le_of_gt outside)]
  · exact qualify_ne_unmeasured _ _ _ _ _

end Sys2Proof.Machine

/-!
SUPPORT. SET OSCILLATOR TRIM, SET HIGHWAY, SET REPORTING and READ HIGHWAY.
-/

namespace Sys2Proof.Machine

open Sys2Proof

/-! ## Bodies and clamps -/

@[simp] theorem length_putSigned32 (x : Int) : (putSigned32 x).length = 4 := rfl

/-- A signed field is read back as it was put (R169). -/
theorem signed32At_putSigned32 {x : Int} (least : -2147483648 ≤ x) (most : x ≤ 2147483647) :
    signed32At (putSigned32 x) 0 = x := by
  have word : be32At (putSigned32 x) 0 = (BitVec.ofInt 32 x).toNat := by
    simp only [putSigned32, put32, put16, List.cons_append, List.nil_append, be32At, be16At, Nat.reduceAdd,
      byteAt_cons_zero, byteAt_cons_succ]
    exact be32_of_put32 (BitVec.ofInt 32 x).isLt
  rw [signed32At, word, BitVec.ofNat_toNat, BitVec.setWidth_eq, BitVec.toInt_ofInt]
  exact Int.bmod_eq_of_le (by omega) (by omega)

theorem byteAt_put8_append {n : Nat} (h : n ≤ 255) (rest : List Byte) : byteAt (put8 n ++ rest) 0 = n :=
  toNat_byte h

theorem byteAt_put8_append_succ (n i : Nat) (rest : List Byte) : byteAt (put8 n ++ rest) (i + 1) = byteAt rest i := rfl

theorem clampTrim_eq (x : Int) : clampTrim x = max (-200000) (min 200000 x) := rfl

theorem bne_eq_decide_ne_int (a b : Int) : (a != b) = decide (a ≠ b) := by
  by_cases h : a = b <;> simp [h]

/-! ## The requests -/

theorem serveSetOscillatorTrim_of_trim {x : Int} (least : -2147483648 ≤ x) (most : x ≤ 2147483647) (s : State) :
    serveSetOscillatorTrim (putSigned32 x) s
      = accept { s with monitor := { s.monitor with trim := clampTrim x } } (decide (clampTrim x ≠ x))
          (putSigned32 (clampTrim x)) := by
  simp only [serveSetOscillatorTrim, length_putSigned32, ne_eq, not_true_eq_false, if_false,
    signed32At_putSigned32 least most, bne_eq_decide_ne_int]

theorem PulseMode.ofCode_of_le {n : Nat} (h : n ≤ 1) :
    PulseMode.ofCode n = some (if n = 0 then .ignore else .realign) := by
  interval_cases n <;> rfl

theorem flagOfCode_of_le {n : Nat} (h : n ≤ 1) : flagOfCode n = some (decide (n = 1)) := by
  interval_cases n <;> rfl

theorem PulseMode.ofCode_of_outside {n : Nat} (h : 1 < n) : PulseMode.ofCode n = none := by
  match n with
  | _ + 2 => rfl

theorem flagOfCode_of_outside {n : Nat} (h : 1 < n) : flagOfCode n = none := by
  match n with
  | _ + 2 => rfl

theorem put8_code_pulseMode {n : Nat} (h : n ≤ 1) :
    put8 (if n = 0 then PulseMode.ignore else .realign).code = put8 n := by
  interval_cases n <;> rfl

theorem putFlag_decide {n : Nat} (h : n ≤ 1) : putFlag (decide (n = 1)) = put8 n := by
  interval_cases n <;> rfl

theorem serveSetHighway_of_settings {mode enable : Nat} (modes : mode ≤ 1) (enables : enable ≤ 1) (s : State) :
    serveSetHighway (put8 mode ++ put8 enable) s
      = accept (s.setHighway (if mode = 0 then .ignore else .realign) (decide (enable = 1))) false
          (put8 mode ++ put8 enable) := by
  have first : byteAt (put8 mode ++ put8 enable) 0 = mode := byteAt_put8_append (by omega) _
  have second : byteAt (put8 mode ++ put8 enable) 1 = enable :=
    (byteAt_put8_append_succ mode 0 _).trans (byteAt_put8 (by omega))
  have length : (put8 mode ++ put8 enable).length = 2 := rfl
  simp only [serveSetHighway, length, ne_eq, not_true_eq_false, if_false, first, second,
    PulseMode.ofCode_of_le modes, flagOfCode_of_le enables, put8_code_pulseMode modes, putFlag_decide enables]

theorem serveSetHighway_of_outside {mode enable : Nat} (modes : mode ≤ 255) (enables : enable ≤ 255)
    (outside : 1 < mode ∨ 1 < enable) (s : State) :
    serveSetHighway (put8 mode ++ put8 enable) s = refuse s .badValue [] := by
  have first : byteAt (put8 mode ++ put8 enable) 0 = mode := byteAt_put8_append modes _
  have second : byteAt (put8 mode ++ put8 enable) 1 = enable :=
    (byteAt_put8_append_succ mode 0 _).trans (byteAt_put8 enables)
  have length : (put8 mode ++ put8 enable).length = 2 := rfl
  simp only [serveSetHighway, length, ne_eq, not_true_eq_false, if_false, first, second]
  rcases outside with mode | enable
  · rw [PulseMode.ofCode_of_outside mode]
  · rw [flagOfCode_of_outside enable]
    cases PulseMode.ofCode _ <;> rfl

theorem serveSetReporting_of_settings {threshold age : Nat} (thresholds : threshold ≤ 255) (ages : age ≤ 255)
    (s : State) :
    serveSetReporting (put8 threshold ++ put8 age) s
      = accept (s.setReporting (max 1 (min 64 threshold)) (min 60 age))
          (decide (max 1 (min 64 threshold) ≠ threshold) || decide (min 60 age ≠ age))
          (put8 (max 1 (min 64 threshold)) ++ put8 (min 60 age)) := by
  have first : byteAt (put8 threshold ++ put8 age) 0 = threshold := byteAt_put8_append thresholds _
  have second : byteAt (put8 threshold ++ put8 age) 1 = age :=
    (byteAt_put8_append_succ threshold 0 _).trans (byteAt_put8 ages)
  have length : (put8 threshold ++ put8 age).length = 2 := rfl
  simp only [serveSetReporting, length, ne_eq, not_true_eq_false, if_false, first, second, clampNat_zero,
    bne_eq_decide_ne, show clampNat 1 64 threshold = max 1 (min 64 threshold) from rfl]

/-- The results of READ HIGHWAY, byte by byte (R58, R170). -/
theorem State.highwayResults_eq (s : State) :
    s.highwayResults = [if s.qh.framing = none then 0 else 1, if s.qh.pulseMode = PulseMode.ignore then 0 else 1,
        BitVec.ofNat 8 s.qh.missing, if s.dh.enable then 1 else 0]
      ++ put16 s.qh.checkErrors ++ put16 s.qh.markErrors ++ put16 s.qh.misroutes := by
  unfold State.highwayResults
  rcases s.qh.framing with _ | f <;> rcases s.qh.pulseMode with _ | _ <;> rcases s.dh.enable with _ | _ <;> rfl

theorem serveReadHighway_of_empty (s : State) : serveReadHighway [] s = accept s.clearCounters false s.highwayResults :=
  rfl

/-- Settles O41, request by request. -/
theorem settingsAndReadHighway : Obligations.SettingsAndReadHighway := by
  refine ⟨fun s f => ⟨?_, ?_, ?_, ?_⟩, ?_⟩
  · intro x y asks body least most stored
    subst stored
    rw [exec, execSetOscillatorTrim, takeRequest_of_asks _ _ s 4 f asks rfl, body,
      serveSetOscillatorTrim_of_trim least most, State.sendReply_accept, clampTrim_eq]
  · intro mode enable asks body modes enables
    rw [exec, execSetHighway, takeRequest_of_asks _ _ s 14 f asks rfl, body, serveSetHighway_of_settings modes enables,
      State.sendReply_accept]
    rfl
  · intro mode enable asks body modes enables outside
    rw [exec, execSetHighway, takeRequest_of_asks _ _ s 14 f asks rfl, body,
      serveSetHighway_of_outside modes enables outside, State.sendReply_refuse]
  · intro threshold age x y asks body thresholds ages hx hy
    subst hx hy
    rw [exec, execSetReporting, takeRequest_of_asks _ _ s 17 f asks rfl, body,
      serveSetReporting_of_settings thresholds ages, State.sendReply_accept]
    rfl
  · intro s f asks body
    rw [exec, execReadHighway, takeRequest_of_asks _ _ s 15 f asks rfl, body, serveReadHighway_of_empty,
      State.sendReply_accept, State.highwayResults_eq]
    rfl

end Sys2Proof.Machine

/-!
SUPPORT. CONFIGURE SHELF. The three steps that settle a shelf under its new configuration, each said once for a JOINED
shelf: the shelf it leaves and the reports it posts.
-/

namespace Sys2Proof.Machine

open Sys2Proof

/-! ## A shelf that holds a card -/

/-- A shelf that is JOINED with a card. -/
def Shelf.withCard (x : Shelf) (c : JoinedCard) : Shelf := { x with admission := .joined c }

theorem Shelf.withCard_eq {x : Shelf} {c : JoinedCard} (joined : x.admission = .joined c) : x.withCard c = x := by
  cases x
  cases joined
  rfl

@[simp] theorem Shelf.withCard_card (x : Shelf) (c : JoinedCard) : (x.withCard c).card = some c := rfl
@[simp] theorem Shelf.withCard_admission (x : Shelf) (c : JoinedCard) : (x.withCard c).admission = .joined c := rfl
@[simp] theorem Shelf.withCard_cfg (x : Shelf) (c : JoinedCard) : (x.withCard c).cfg = x.cfg := rfl
@[simp] theorem Shelf.withCard_request (x : Shelf) (c : JoinedCard) : (x.withCard c).request = c.request := rfl
@[simp] theorem Shelf.withCard_timing (x : Shelf) (c : JoinedCard) : (x.withCard c).timing = some c.timing := rfl
@[simp] theorem Shelf.withCard_offers (x : Shelf) (c : JoinedCard) (r : RefNo) :
    (x.withCard c).offers r = x.offers r := rfl

theorem Shelf.withTiming_withCard (x : Shelf) (c : JoinedCard) (t : Timing) :
    (x.withCard c).withTiming t = x.withCard { c with timing := t } := rfl

/-- An operation that leads from s to t posts exactly these reports and leaves x in shelf h. -/
structure SettlesShelf (h : ShelfNo) (reps : List Report) (x : Shelf) (s t : State) : Prop where
  posts : Posts reps s t
  shelf : t.shelf h = x

theorem SettlesShelf.trans {h : ShelfNo} {a b : List Report} {x y : Shelf} {s t u : State}
    (first : SettlesShelf h a x s t) (second : SettlesShelf h b y t u) : SettlesShelf h (a ++ b) y s u :=
  ⟨first.posts.trans second.posts, second.shelf⟩

theorem SettlesShelf.refl {h : ShelfNo} {x : Shelf} {s : State} (shelf : s.shelf h = x) : SettlesShelf h [] x s s :=
  ⟨(SameMasks.refl s).posts_nil rfl, shelf⟩

theorem SettlesShelf.leavePassPending {h : ShelfNo} {reps : List Report} {x : Shelf} {s t : State}
    (a : SettlesShelf h reps x s t) : SettlesShelf h reps x s t.leavePassPending :=
  ⟨⟨a.posts.masks.trans t.leavePassPending_shelfMove.sameMasks, a.posts.queue⟩, a.shelf⟩

theorem SettlesShelf.post {h : ShelfNo} {reps : List Report} {x : Shelf} {s t : State}
    (a : SettlesShelf h reps x s t) (rep : Report) : SettlesShelf h (reps ++ [rep]) x s (t.post rep) :=
  ⟨a.posts.trans (t.post_posts rep), by rw [State.shelf_post, a.shelf]⟩

theorem State.mapCard_settlesShelf {h : ShelfNo} {x : Shelf} {c : JoinedCard} {s : State}
    (joined : s.shelf h = x.withCard c) (f : JoinedCard → JoinedCard) :
    SettlesShelf h [] (x.withCard (f c)) s (s.mapCard h f) where
  posts := (s.mapCard_shelfMove h f).sameMasks.posts_nil (s.mapCard_queue h f)
  shelf := by
    rw [State.shelf_mapCard, if_pos rfl, joined]
    rfl

/-! ## The switch request under the new list -/

/-- What stays of a switch request under the list of a shelf (R75). -/
def Shelf.keptRequest (x : Shelf) : SwitchRequest → SwitchRequest
  | .none => .none
  | .forced r => if x.offers r then .forced r else .none
  | .manual r => if x.offers r then .manual r else .none

/-- The report of a switch request that the list of a shelf no longer offers (R118). -/
def Shelf.droppedReports (h : ShelfNo) (x : Shelf) : SwitchRequest → List Report
  | .manual r => if x.offers r then [] else [.manualDropped h r]
  | _ => []

theorem State.dropUnoffered_settlesShelf {h : ShelfNo} {x : Shelf} {c : JoinedCard} {s : State}
    (joined : s.shelf h = x.withCard c) :
    SettlesShelf h (x.droppedReports h c.request) (x.withCard { c with request := x.keptRequest c.request }) s
      (s.dropUnoffered h) := by
  have unchanged (same : x.keptRequest c.request = c.request) :
      s.shelf h = x.withCard { c with request := x.keptRequest c.request } := by rw [joined, same]
  have dropped := (State.mapCard_settlesShelf joined fun c => { c with request := .none }).leavePassPending
  rcases a : c.request with _ | r | r
  · have same : s.dropUnoffered h = s := by simp [State.dropUnoffered, joined, a]
    rw [same]
    exact .refl (a ▸ unchanged (by rw [a]; rfl))
  · by_cases offered : x.offers r = true
    · have same : s.dropUnoffered h = s := by simp [State.dropUnoffered, joined, a, offered]
      rw [same]
      exact .refl (a ▸ unchanged (by simp [a, Shelf.keptRequest, offered]))
    · simpa [State.dropUnoffered, State.dropRequest, joined, a, offered, Shelf.keptRequest, Shelf.droppedReports]
        using dropped
  · by_cases offered : x.offers r = true
    · have same : s.dropUnoffered h = s := by simp [State.dropUnoffered, joined, a, offered]
      rw [same]
      have none : x.droppedReports h (.manual r) = [] := by simp [Shelf.droppedReports, offered]
      rw [none]
      exact .refl (a ▸ unchanged (by simp [a, Shelf.keptRequest, offered]))
    · simpa [State.dropUnoffered, State.dropRequest, joined, a, offered, Shelf.keptRequest, Shelf.droppedReports]
        using dropped.post (.manualDropped h r)

/-! ## The aging under the new limit -/

/-- The timing state of a shelf that is not in ACQUIRE once the aging is settled under a limit (R75). -/
def Timing.resettled (limit before now : Nat) : Timing → Timing
  | .holdover o =>
    if o.aged ∨ limit = before then .holdover o
    else if limit ≠ 0 ∧ o.start + limit ≤ now then .holdover ⟨o.start, true, false⟩
    else .holdover ⟨o.start, false, false⟩
  | t => t

/-- The report of a holdover that ages between two timing states (R90). -/
def agedReports (h : ShelfNo) (before after : Timing) : List Report :=
  if after.heldOver.map (·.aged) = before.heldOver.map (·.aged) then [] else [.holdoverAged h]

theorem agedReports_self (h : ShelfNo) (t : Timing) : agedReports h t t = [] := if_pos rfl

theorem State.ageHoldover_settlesShelf {h : ShelfNo} {x : Shelf} {c : JoinedCard} {s : State}
    (joined : s.shelf h = x.withCard c) :
    SettlesShelf h [.holdoverAged h] (x.withCard { c with timing := c.timing.age }) s (s.ageHoldover h) :=
  ((State.mapCard_settlesShelf joined fun c => { c with timing := c.timing.age }).leavePassPending).post
    (.holdoverAged h)

theorem State.resettleAging_settlesShelf {h : ShelfNo} {x : Shelf} {c : JoinedCard} {s : State}
    (joined : s.shelf h = x.withCard c) (settled : (s.shelf h).acquiring = false) (before : Nat) :
    SettlesShelf h (agedReports h c.timing (c.timing.resettled x.cfg.holdoverLimit before s.now))
      (x.withCard { c with timing := c.timing.resettled x.cfg.holdoverLimit before s.now }) s
      (s.resettleAging h before) := by
  have unchanged (same : c.timing.resettled x.cfg.holdoverLimit before s.now = c.timing) :
      SettlesShelf h (agedReports h c.timing (c.timing.resettled x.cfg.holdoverLimit before s.now))
        (x.withCard { c with timing := c.timing.resettled x.cfg.holdoverLimit before s.now }) s s := by
    rw [same, agedReports_self]
    exact .refl joined
  rcases a : c.timing with _ | ⟨r, o, expiry⟩ | ⟨r, since⟩ | o
  · have same : s.resettleAging h before = s := by simp [State.resettleAging, joined, a, Timing.heldOver]
    rw [same]
    exact a ▸ unchanged (by rw [a]; rfl)
  · simp [joined, Shelf.acquiring, a] at settled
  · have same : s.resettleAging h before = s := by simp [State.resettleAging, joined, a, Timing.heldOver]
    rw [same]
    exact a ▸ unchanged (by rw [a]; rfl)
  · by_cases stands : o.aged = true ∨ x.cfg.holdoverLimit = before
    · have same : s.resettleAging h before = s := by simp [State.resettleAging, joined, a, Timing.heldOver, stands]
      rw [same]
      exact a ▸ unchanged (by rw [a]; exact if_pos stands)
    · have young : o.aged = false := by simpa using (not_or.1 stands).1
      by_cases due : x.cfg.holdoverLimit ≠ 0 ∧ o.start + x.cfg.holdoverLimit ≤ s.now
      · have step : s.resettleAging h before = s.ageHoldover h := by
          simp only [State.resettleAging, joined, Shelf.withCard_timing, a, Option.bind_some, Timing.heldOver,
            Shelf.withCard_cfg, if_neg stands, if_pos due]
        have timing : (Timing.holdover o).resettled x.cfg.holdoverLimit before s.now
            = .holdover ⟨o.start, true, false⟩ := (if_neg stands).trans (if_pos due)
        have reports : agedReports h (.holdover o) (.holdover ⟨o.start, true, false⟩) = [.holdoverAged h] := by
          simp [agedReports, Timing.heldOver, young]
        have aged := State.ageHoldover_settlesShelf joined
        rw [a] at aged
        rw [step, timing, reports]
        exact aged
      · have step : s.resettleAging h before = s.mapCard h fun c => { c with timing := c.timing.rewait } := by
          simp only [State.resettleAging, joined, Shelf.withCard_timing, a, Option.bind_some, Timing.heldOver,
            Shelf.withCard_cfg, if_neg stands, if_neg due]
        have timing : (Timing.holdover o).resettled x.cfg.holdoverLimit before s.now
            = .holdover ⟨o.start, false, false⟩ := (if_neg stands).trans (if_neg due)
        have quiet : agedReports h (.holdover o) (.holdover ⟨o.start, false, false⟩) = [] := by
          simp [agedReports, Timing.heldOver, young]
        have waits := State.mapCard_settlesShelf joined fun c => { c with timing := c.timing.rewait }
        rw [step, timing, quiet]
        simpa only [a, Timing.rewait, young] using waits

/-! ## Admission and selection -/

theorem State.reject_settlesShelf {h : ShelfNo} {x : Shelf} {c : JoinedCard} {s : State}
    (joined : s.shelf h = x.withCard c) (reason : RejectReason) :
    SettlesShelf h [.cardRejected h reason] { x with admission := .rejected reason } s (s.reject h reason) where
  posts := by
    refine ⟨(s.reject_shelfMove h reason).sameMasks, ?_⟩
    have written : ShelfMove s (s.setShelf h { s.shelf h with admission := .rejected reason }) :=
      State.setShelf_shelfMove h _ s rfl rfl rfl
    simp only [State.reject, joined, Shelf.withCard_admission]
    rw [joined] at written
    exact (written.trans (State.leavePassPending_shelfMove _)).sameMasks.post_queue rfl _
  shelf := by
    rw [State.reject, State.shelf_post]
    simp [joined, Shelf.withCard]

/-- The timing state once the selection is settled: LOCKED on a reference the list does not offer goes to its fallback
(R76). -/
def State.settledTiming (s : State) (h : ShelfNo) : Timing → Timing
  | .locked r since => if (s.shelf h).offers r then .locked r since else fallbackOf s h (.locked r since)
  | t => t

/-- The report of a LOCKED shelf that the settled selection takes off its reference (R89). -/
def State.settledReports (s : State) (h : ShelfNo) : Timing → List Report
  | .locked r since =>
    if (s.shelf h).offers r then [] else [.shelfState h (fallbackOf s h (.locked r since)).name]
  | _ => []

/-- The admission of a card under the configuration of its shelf, with the selection settled (R76). -/
def State.settledAdmission (s : State) (h : ShelfNo) (c : JoinedCard) : Admission :=
  if (s.shelf h).cfg.enabled = false then .rejected .disabled
  else if (s.shelf h).cfg.accepts c.cardClass = false then .rejected .cardClass
  else .joined { c with timing := s.settledTiming h c.timing }

/-- The reports of settling a card's admission and selection (R76). -/
def State.admissionReports (s : State) (h : ShelfNo) (c : JoinedCard) : List Report :=
  if (s.shelf h).cfg.enabled = false then [.cardRejected h .disabled]
  else if (s.shelf h).cfg.accepts c.cardClass = false then [.cardRejected h .cardClass]
  else s.settledReports h c.timing

theorem State.settleShelf_of_accepted {h : ShelfNo} {x : Shelf} {c : JoinedCard} {s : State}
    (joined : s.shelf h = x.withCard c) (enabled : x.cfg.enabled = true)
    (accepted : x.cfg.accepts c.cardClass = true) :
    SettlesShelf h (s.settledReports h c.timing) (x.withCard { c with timing := s.settledTiming h c.timing }) s
      (s.settleShelf h) := by
  rcases a : c.timing with _ | _ | ⟨r, since⟩ | _
  case locked =>
    by_cases offered : x.offers r = true
    · have same : s.settleShelf h = s := by simp [State.settleShelf, joined, enabled, accepted, a, offered]
      have none : s.settledReports h (.locked r since) = [] := by simp [State.settledReports, joined, offered]
      have stays : s.settledTiming h (.locked r since) = c.timing := by
        simp [State.settledTiming, joined, offered, a]
      rw [same, none, stays]
      exact .refl joined
    · have moved : s.settleShelf h = s.moveShelf h (fallbackOf s h (.locked r since)) := by
        simp [State.settleShelf, State.leaveLocked, joined, enabled, accepted, a, offered, ← State.qualifyFallback_eq]
      have reports : s.settledReports h (.locked r since)
          = [.shelfState h (fallbackOf s h (.locked r since)).name] := by
        simp [State.settledReports, joined, offered]
      have falls : s.settledTiming h (.locked r since) = fallbackOf s h (.locked r since) := by
        simp [State.settledTiming, joined, offered]
      rw [moved, reports, falls]
      refine ⟨s.moveShelf_posts h _, ?_⟩
      rw [State.shelf_moveShelf, if_pos rfl, joined, Shelf.withTiming_withCard]
  all_goals
    have same : s.settleShelf h = s := by simp [State.settleShelf, joined, enabled, accepted, a]
    rw [same]
    refine .refl (joined.trans ?_)
    simp [State.settledTiming, ← a]

theorem State.settleShelf_settlesShelf {h : ShelfNo} {x : Shelf} {c : JoinedCard} {s : State}
    (joined : s.shelf h = x.withCard c) :
    SettlesShelf h (s.admissionReports h c) { x with admission := s.settledAdmission h c } s (s.settleShelf h) := by
  have cfg : (s.shelf h).cfg = x.cfg := by rw [joined, Shelf.withCard_cfg]
  rw [State.admissionReports, State.settledAdmission, cfg]
  by_cases disabled : x.cfg.enabled = false
  · have step : s.settleShelf h = s.reject h .disabled := by simp [State.settleShelf, joined, disabled]
    rw [step, if_pos disabled, if_pos disabled]
    exact State.reject_settlesShelf joined .disabled
  have enabled : x.cfg.enabled = true := Bool.eq_true_of_not_eq_false disabled
  rw [if_neg disabled, if_neg disabled]
  by_cases unaccepted : x.cfg.accepts c.cardClass = false
  · have step : s.settleShelf h = s.reject h .cardClass := by simp [State.settleShelf, joined, enabled, unaccepted]
    rw [step, if_pos unaccepted, if_pos unaccepted]
    exact State.reject_settlesShelf joined .cardClass
  rw [if_neg unaccepted, if_neg unaccepted]
  exact State.settleShelf_of_accepted joined enabled (Bool.eq_true_of_not_eq_false unaccepted)

/-- Where a shelf falls back to from LOCKED rests on office time, the configuration and nothing else of the shelf. -/
theorem fallbackOf_congr_cfg {s t : State} {h : ShelfNo} (now : t.now = s.now)
    (cfg : (t.shelf h).cfg = (s.shelf h).cfg) (x : Timing) : fallbackOf t h x = fallbackOf s h x := by
  simp only [fallbackOf, now, cfg]

/-! ## The three steps together -/

theorem State.settledTiming_congr {s t : State} {h : ShelfNo} (now : t.now = s.now)
    (cfg : (t.shelf h).cfg = (s.shelf h).cfg) (offers : ∀ r, (t.shelf h).offers r = (s.shelf h).offers r)
    (timing : Timing) : t.settledTiming h timing = s.settledTiming h timing := by
  cases timing <;> simp only [State.settledTiming, offers, fallbackOf_congr_cfg now cfg]

theorem State.settledReports_congr {s t : State} {h : ShelfNo} (now : t.now = s.now)
    (cfg : (t.shelf h).cfg = (s.shelf h).cfg) (offers : ∀ r, (t.shelf h).offers r = (s.shelf h).offers r)
    (timing : Timing) : t.settledReports h timing = s.settledReports h timing := by
  cases timing <;> simp only [State.settledReports, offers, fallbackOf_congr_cfg now cfg]

/-- Settling a card reads office time, the configuration and the list, and not the card the shelf holds. -/
theorem State.settled_congr {s t : State} {h : ShelfNo} {x : Shelf} {c d : JoinedCard} (now : t.now = s.now)
    (left : s.shelf h = x.withCard c) (right : t.shelf h = x.withCard d) (card : JoinedCard) :
    t.settledAdmission h card = s.settledAdmission h card
      ∧ t.admissionReports h card = s.admissionReports h card := by
  have cfg : (t.shelf h).cfg = (s.shelf h).cfg := by rw [left, right]; rfl
  have offers (r : RefNo) : (t.shelf h).offers r = (s.shelf h).offers r := by rw [left, right]; rfl
  constructor
  · simp only [State.settledAdmission, cfg, State.settledTiming_congr now cfg offers]
  · simp only [State.admissionReports, cfg, State.settledReports_congr now cfg offers]

/-- A shelf that is not JOINED has nothing to settle. -/
theorem State.settle_of_not_joined {h : ShelfNo} {s : State} (vacant : (s.shelf h).card = none) (before : Nat) :
    ((s.dropUnoffered h).resettleAging h before).settleShelf h = s := by
  have drop : s.dropUnoffered h = s := by simp [State.dropUnoffered, Shelf.request, vacant]
  have aging : s.resettleAging h before = s := by simp [State.resettleAging, Shelf.timing, vacant]
  have settle : s.settleShelf h = s := by simp [State.settleShelf, vacant]
  rw [drop, aging, settle]

/-- The first two steps on a JOINED shelf that is not in ACQUIRE: the request, then the aging (R75). -/
theorem State.dropAndResettle_settlesShelf {h : ShelfNo} {x : Shelf} {c : JoinedCard} {s : State}
    (joined : s.shelf h = x.withCard c) (settled : (s.shelf h).acquiring = false) (before : Nat) :
    SettlesShelf h
      (x.droppedReports h c.request ++ agedReports h c.timing (c.timing.resettled x.cfg.holdoverLimit before s.now))
      (x.withCard { c with
        request := x.keptRequest c.request
        timing := c.timing.resettled x.cfg.holdoverLimit before s.now })
      s ((s.dropUnoffered h).resettleAging h before) := by
  have drop := State.dropUnoffered_settlesShelf joined
  have still : ((s.dropUnoffered h).shelf h).acquiring = false := by
    rw [joined] at settled
    rw [drop.shelf]
    exact settled
  have aging := State.resettleAging_settlesShelf drop.shelf still before
  rw [drop.posts.masks.now] at aging
  exact drop.trans aging

/-- The state an accepted CONFIGURE SHELF starts from: the new configuration and list are written (R75). -/
def State.writeShelfConfig (s : State) (h : ShelfNo) (cfg : ShelfConfig) (list : List Candidate) : State :=
  s.setShelf h { s.shelf h with cfg := cfg, candidates := list }

theorem State.shelf_writeShelfConfig (s : State) (h : ShelfNo) (cfg : ShelfConfig) (list : List Candidate) :
    (s.writeShelfConfig h cfg list).shelf h = { s.shelf h with cfg := cfg, candidates := list } :=
  s.shelf_setShelf_same h _

theorem State.reconfigureShelf_eq (h : ShelfNo) (cfg : ShelfConfig) (list : List Candidate) (s : State) :
    s.reconfigureShelf h cfg list
      = ((((s.writeShelfConfig h cfg list).dropUnoffered h).resettleAging h
          (s.shelf h).cfg.holdoverLimit).settleShelf h).leavePassPending := rfl

theorem State.reconfigureShelf_of_not_joined {h : ShelfNo} {s : State} (vacant : (s.shelf h).isJoined = false)
    (cfg : ShelfConfig) (list : List Candidate) :
    s.reconfigureShelf h cfg list = (s.writeShelfConfig h cfg list).leavePassPending := by
  have none : (s.shelf h).card = none := Option.isSome_eq_false_iff.1 vacant |> Option.isNone_iff_eq_none.1
  rw [State.reconfigureShelf_eq, State.settle_of_not_joined]
  rw [State.shelf_writeShelfConfig]
  exact none

/-- A card with its switch request and its aging settled under a shelf's new configuration and list (R75). -/
def Shelf.resettledCard (x : Shelf) (before now : Nat) (c : JoinedCard) : JoinedCard :=
  { c with request := x.keptRequest c.request, timing := c.timing.resettled x.cfg.holdoverLimit before now }

/-- The effect of CONFIGURE SHELF on a JOINED shelf x that is not in ACQUIRE, the new configuration and list written
in it: the three steps one after another (R75, R76). -/
theorem State.reconfigureShelf_settlesShelf {h : ShelfNo} {s u : State} {x : Shelf} {c d : JoinedCard}
    {cfg : ShelfConfig} {list : List Candidate} (written : u = s.writeShelfConfig h cfg list)
    (joined : u.shelf h = x.withCard c) (settled : (s.shelf h).acquiring = false)
    (card : d = x.resettledCard (s.shelf h).cfg.holdoverLimit s.now c) :
    SettlesShelf h
      (x.droppedReports h c.request ++ agedReports h c.timing d.timing ++ u.admissionReports h d)
      { x with admission := u.settledAdmission h d } u (s.reconfigureShelf h cfg list) := by
  have still : (u.shelf h).acquiring = false := by
    rw [written, State.shelf_writeShelfConfig]
    exact settled
  have now : u.now = s.now := by rw [written]; rfl
  have early := State.dropAndResettle_settlesShelf joined still (s.shelf h).cfg.holdoverLimit
  have late := State.settleShelf_settlesShelf early.shelf
  obtain ⟨admission, reports⟩ := State.settled_congr early.posts.masks.now joined early.shelf d
  rw [Shelf.resettledCard, ← now] at card
  subst card
  rw [← admission, ← reports, State.reconfigureShelf_eq, ← written]
  exact (early.trans late).leavePassPending

/-- Settles O43: the steps of CONFIGURE SHELF one after another, by the admission of the shelf. -/
theorem configureShelfSettlesTheCard : Obligations.ConfigureShelfSettlesTheCard := by
  intro s u h cfg list written settled
  change u = s.writeShelfConfig h cfg list at written
  refine ⟨s.reconfigureShelf h cfg list, rfl, rfl, fun vacant => ?_, fun c aged kept joined isAged isKept => ?_⟩
  · rw [State.reconfigureShelf_of_not_joined vacant, written]
    rfl
  have shelf : u.shelf h = { s.shelf h with cfg := cfg, candidates := list } := by
    rw [written, State.shelf_writeShelfConfig]
  have withCard : u.shelf h = (u.shelf h).withCard c := (Shelf.withCard_eq (by rw [shelf]; exact joined)).symm
  have newCfg : (u.shelf h).cfg = cfg := by rw [shelf]
  have timing : aged = c.timing.resettled cfg.holdoverLimit (s.shelf h).cfg.holdoverLimit s.now := by
    rw [isAged]
    cases c.timing <;> rfl
  have request : kept = (u.shelf h).keptRequest c.request := by
    rw [isKept]
    cases c.request <;> rfl
  have outcome := State.reconfigureShelf_settlesShelf (d := { c with request := kept, timing := aged })
    written withCard settled (by rw [timing, request, Shelf.resettledCard, newCfg])
  have admission : ((s.reconfigureShelf h cfg list).shelf h).admission
      = u.settledAdmission h { c with request := kept, timing := aged } := by rw [outcome.shelf]
  refine ⟨fun disabled => ?_, fun enabled unaccepted => ?_, fun enabled accepted => ?_, ?_⟩
  · rw [admission, State.settledAdmission, newCfg, if_pos disabled]
  · rw [admission, State.settledAdmission, newCfg, if_neg (ne_false_of_eq_true enabled)]
    exact if_pos unaccepted
  · rw [admission, State.settledAdmission, newCfg, if_neg (ne_false_of_eq_true enabled)]
    refine (if_neg (ne_false_of_eq_true accepted)).trans ?_
    cases aged <;> rfl
  · rw [outcome.posts.queue, State.admissionReports, newCfg]
    cases c.request <;> cases aged <;> rfl

end Sys2Proof.Machine

/-!
SUPPORT. The alignment of the Quality Highway: each of its events, where it takes place and where it changes nothing.
-/

namespace Sys2Proof.Machine

open Sys2Proof

/-! ## Events that change nothing -/

/-- An event whose effect leaves the state as it is changes nothing, in reset as out of it. -/
theorem event_of_unchanged {s : State} {f : State → State} (unchanged : f s = s) : event s f = .next s := by
  rcases event_cases s f with same | effect
  · exact same
  · rw [effect, unchanged]

/-! ## The position in the frame -/

theorem Framing.frameOver_iff (f : Framing) : f.frameOver = true ↔ 384 ≤ f.position := decide_eq_true_iff

theorem Framing.frameOver_of_before {f : Framing} (before : f.position < 384) : f.frameOver = false := by
  rw [← Bool.not_eq_true, f.frameOver_iff]
  omega

theorem State.frameWatchDue_iff (s : State) :
    s.frameWatchDue = true ↔ ∃ f, s.qh.framing = some f ∧ 3750 ≤ f.watch := by
  unfold State.frameWatchDue
  split
  · rename_i f aligned
    have reached : decide (Config.frameWatchLimit ≤ f.watch) = true ↔ 3750 ≤ f.watch := decide_eq_true_iff
    simp [aligned, reached]
  · rename_i lost
    simp [lost]

/-! ## Missing pulses -/

theorem State.countMiss_of_few {s : State} (few : s.qh.missing < 7) (f : Framing) :
    s.countMiss f = { s with qh := { s.qh with framing := some f, missing := s.qh.missing + 1 } } :=
  if_neg (by omega)

theorem State.countMiss_of_seven {s : State} (seven : 7 ≤ s.qh.missing) (f : Framing) :
    s.countMiss f = s.loseHighway := if_pos (by omega)

theorem State.startFrame_of_pulse (f : Framing) (s : State) :
    s.startFrame true f = { s with qh := { s.qh with framing := some .start, missing := 0 } } := rfl

theorem State.startFrame_of_counted {f : Framing} (counted : f.missCounted = true) (s : State) :
    s.startFrame false f = { s with qh := { s.qh with framing := some .start } } := by
  simp [State.startFrame, counted]

theorem State.startFrame_of_miss {f : Framing} (uncounted : f.missCounted = false) (s : State) :
    s.startFrame false f = s.countMiss .start := by
  simp [State.startFrame, uncounted]

/-! ## The events of alignment -/

theorem execQhFrameStart_of_past {s : State} {f : Framing} (running : s.resetHeld = false)
    (aligned : s.qh.framing = some f) (past : 384 ≤ f.position) (pulse : Bool) :
    exec (.qhFrameStart pulse) s = .next (s.startFrame pulse f) := by
  rw [exec, execQhFrameStart, event_of_running s _ running]
  simp only [aligned, f.frameOver_iff.2 past, if_true]

theorem execQhFrameStart_of_before {s : State} {f : Framing} (aligned : s.qh.framing = some f)
    (before : f.position < 384) (pulse : Bool) : exec (.qhFrameStart pulse) s = .next s := by
  rw [exec, execQhFrameStart]
  refine event_of_unchanged ?_
  simp [aligned, Framing.frameOver_of_before before]

theorem execQhFrameStart_of_lost {s : State} (lost : s.qh.framing = none) (pulse : Bool) :
    exec (.qhFrameStart pulse) s = .next s := by
  rw [exec, execQhFrameStart]
  refine event_of_unchanged ?_
  simp only [lost]

theorem execFrameWatchRunOut_of_due {s : State} (running : s.resetHeld = false) (due : s.frameWatchDue = true) :
    exec .frameWatchRunOut s = .next (s.countMiss ⟨384, 0, true⟩) := by
  rw [exec, execFrameWatchRunOut, eventIf_of_due _ s _ running due]
  rfl

theorem execQhSync_of_realign {s : State} {f : Framing} (running : s.resetHeld = false)
    (aligned : s.qh.framing = some f) (mode : s.qh.pulseMode = .realign) (before : f.position < 384) :
    exec .qhSync s = .next s.realign := by
  rw [exec, execQhSync, event_of_running s _ running]
  simp [aligned, mode, Framing.frameOver_of_before before]

/-- A pulse is not an unexpected one while LOST, in IGNORE, or on the expected position (R46, R48, R50). -/
theorem execQhSync_of_disregarded {s : State}
    (disregarded : s.qh.framing = none ∨ s.qh.pulseMode = .ignore
      ∨ ∃ f, s.qh.framing = some f ∧ 384 ≤ f.position) : exec .qhSync s = .next s := by
  rw [exec, execQhSync]
  refine event_of_unchanged ?_
  rcases disregarded with lost | ignore | ⟨f, aligned, past⟩
  · simp only [lost]
  · rcases s.qh.framing with _ | f <;> simp only [ignore]
  · cases mode : s.qh.pulseMode <;> simp [aligned, f.frameOver_iff.2 past]

theorem execQhRecovered_of_lost {s : State} (running : s.resetHeld = false) (lost : s.qh.framing = none) :
    exec .qhRecovered s = .next s.recoverHighway := by
  rw [exec, execQhRecovered, event_of_running s _ running]
  simp only [lost]

theorem execQhRecovered_of_aligned {s : State} (aligned : s.qh.framing ≠ none) : exec .qhRecovered s = .next s := by
  obtain ⟨f, framing⟩ := Option.ne_none_iff_exists'.1 aligned
  rw [exec, execQhRecovered]
  refine event_of_unchanged ?_
  simp only [framing]

/-! ## Words -/

theorem execWordReceived_of_turn {s : State} {n : SlotNo} {f : Framing} (running : s.resetHeld = false)
    (aligned : s.qh.framing = some f) (before : f.position < 384) (turn : f.position / 8 = n.val) (bits : Byte) :
    exec (.wordReceived n.val bits) s = .next ((s.passWord n f).feedWord n (wordOf bits)) := by
  rw [exec, execWordReceived, onSlot_of_lt n.val n.isLt, event_of_running s _ running]
  simp [aligned, Framing.frameOver_of_before before, Framing.nextSlot, turn]

/-- No word is taken while LOST, past the frame, or out of the turn of its slot (R44, R46; log 7). -/
theorem execWordReceived_of_untimely {s : State} {n : SlotNo}
    (untimely : s.qh.framing = none ∨ ∃ f, s.qh.framing = some f ∧ (384 ≤ f.position ∨ f.position / 8 ≠ n.val))
    (bits : Byte) : exec (.wordReceived n.val bits) s = .next s := by
  rw [exec, execWordReceived, onSlot_of_lt n.val n.isLt]
  refine event_of_unchanged ?_
  rcases untimely with lost | ⟨f, aligned, past | otherSlot⟩
  · simp only [lost]
  · simp [aligned, f.frameOver_iff.2 past]
  · simp [aligned, Framing.nextSlot, otherSlot]

/-! ## The statements -/

/-- Settles O16, by the position, the miss already counted and the number of misses. -/
theorem missingPulsesAreCounted : Obligations.MissingPulsesAreCounted := by
  refine ⟨fun s running => ⟨fun pulse lost => execQhFrameStart_of_lost lost pulse, fun f aligned => ?_⟩,
    fun s running => ?_⟩
  · refine ⟨fun before pulse => execQhFrameStart_of_before aligned before pulse, fun past => ?_,
      fun past counted => ?_, fun past uncounted few => ?_, fun past uncounted seven => ?_⟩
    all_goals rw [execQhFrameStart_of_past running aligned past]
    · rw [State.startFrame_of_pulse, Framing.start]
    · rw [State.startFrame_of_counted counted, Framing.start]
    · rw [State.startFrame_of_miss uncounted, State.countMiss_of_few few, Framing.start]
    · rw [State.startFrame_of_miss uncounted, State.countMiss_of_seven seven, State.loseHighway]
  · refine ⟨fun f aligned due few => ?_, fun f aligned due seven => ?_, fun early => ?_⟩
    · rw [execFrameWatchRunOut_of_due running (s.frameWatchDue_iff.2 ⟨f, aligned, due⟩), State.countMiss_of_few few]
    · rw [execFrameWatchRunOut_of_due running (s.frameWatchDue_iff.2 ⟨f, aligned, due⟩),
        State.countMiss_of_seven seven, State.loseHighway]
    · refine eventIf_of_not_due _ s _ ?_
      rw [← Bool.not_eq_true, s.frameWatchDue_iff]
      rintro ⟨g, aligned, due⟩
      rcases early with lost | ⟨f, framing, toCome⟩
      · simp [lost] at aligned
      · obtain rfl : f = g := by simpa [framing] using aligned
        omega

/-- Settles O17, event by event. -/
theorem otherPulsesAndLostFrames : Obligations.OtherPulsesAndLostFrames := by
  refine ⟨fun s running => ⟨fun f aligned mode before => ?_, execQhSync_of_disregarded, fun lost => ?_,
    execQhRecovered_of_aligned⟩, fun s n bits untimely => execWordReceived_of_untimely untimely bits⟩
  · rw [execQhSync_of_realign running aligned mode before, State.realign, Framing.start]
  · rw [execQhRecovered_of_lost running lost, State.recoverHighway, Framing.start]

end Sys2Proof.Machine

/-!
SUPPORT. The words of the Quality Highway: what a slot's assembler does with an unmarked and with a marked word.
-/

namespace Sys2Proof.Machine

open Sys2Proof

/-! ## The word of eight bits -/

/-- The mark is the first of the eight bits and the value the other seven (R168). -/
theorem wordOf_cons (mark : Bool) (value : WordValue) : wordOf (BitVec.cons mark value) = ⟨mark, value⟩ := by
  simp [wordOf]

/-! ## A word at an assembler -/

theorem State.feedWord_of_passedOver {s : State} {n : SlotNo} (hunt : s.assembler n = .hunt) (value : WordValue) :
    s.feedWord n ⟨false, value⟩ = s := by
  simp only [State.feedWord, hunt]

theorem State.feedWord_of_collected {s : State} {n : SlotNo} {length : Nat} {words : List WordValue}
    (collecting : s.assembler n = .collect length words) (unfinished : words.length + 1 < length)
    (value : WordValue) :
    s.feedWord n ⟨false, value⟩ = s.setAssembler n (.collect length (words ++ [value])) := by
  simp only [State.feedWord, collecting, if_neg (Nat.not_le_of_lt unfinished)]

theorem State.feedWord_of_completing {s : State} {n : SlotNo} {length : Nat} {words : List WordValue}
    (collecting : s.assembler n = .collect length words) (last : length ≤ words.length + 1) (value : WordValue) :
    s.feedWord n ⟨false, value⟩ = (s.setAssembler n .hunt).judgeBlock n (words ++ [value]) := by
  simp only [State.feedWord, collecting, if_pos last]

/-- The state in which a marked word opens a block: an unfinished block is abandoned with a mark error (R52). -/
def State.abandonBlock (n : SlotNo) (s : State) : State :=
  match s.assembler n with
  | .hunt => s
  | .collect _ _ => s.countMarkError n

theorem State.feedWord_of_marked (s : State) (n : SlotNo) (value : WordValue) :
    s.feedWord n ⟨true, value⟩ = (s.abandonBlock n).openBlock n value := by
  rcases assembler : s.assembler n with _ | ⟨length, words⟩ <;>
    simp only [State.feedWord, State.abandonBlock, assembler]

@[simp] theorem State.misroutes_abandonBlock (n : SlotNo) (s : State) :
    (s.abandonBlock n).qh.misroutes = s.qh.misroutes := by
  unfold State.abandonBlock
  split
  · rfl
  · rw [State.countMarkError, State.post_qh]

/-! ## A block opened by its tag -/

theorem State.openBlock_of_status {tag : WordValue} (status : tag.toNat < 40) (n : SlotNo) (s : State) :
    s.openBlock n tag = s.setAssembler n (.collect 4 [tag]) := if_pos status

theorem State.openBlock_of_report {tag : WordValue} (least : 64 ≤ tag.toNat) (below : tag.toNat < 96) (n : SlotNo)
    (s : State) : s.openBlock n tag = s.setAssembler n (.collect 5 [tag]) := by
  have noStatus : ¬ tag.toNat < 40 := by omega
  rw [State.openBlock, if_neg noStatus, if_pos ⟨least, below⟩]

theorem State.openBlock_of_stray {tag : WordValue} (stray : (40 ≤ tag.toNat ∧ tag.toNat < 64) ∨ 96 ≤ tag.toNat)
    (n : SlotNo) (s : State) : s.openBlock n tag = (s.setAssembler n .hunt).countMisroute tag.toNat := by
  have noStatus : ¬ tag.toNat < 40 := by omega
  have noReport : ¬ (64 ≤ tag.toNat ∧ tag.toNat < 96) := by omega
  rw [State.openBlock, if_neg noStatus, if_neg noReport]

/-- Settles O18, by the mark of the word, the assembler and the tag. -/
theorem wordsAreCollectedIntoBlocks : Obligations.WordsAreCollectedIntoBlocks := by
  intro s u v n f value running aligned before turn hu hv
  have passed : s.passWord n f = u := hu.symm
  have sameAssembler : u.assembler n = s.assembler n := by rw [← passed, State.assembler_passWord]
  have word (mark : Bool) : exec (.wordReceived n.val (BitVec.cons mark value)) s
      = .next (u.feedWord n ⟨mark, value⟩) := by
    rw [execWordReceived_of_turn running aligned before turn, passed, wordOf_cons]
  have abandoned : u.abandonBlock n = v := by
    rw [hv, State.abandonBlock, sameAssembler, ← passed]
    cases s.assembler n <;> rfl
  have marked : exec (.wordReceived n.val (BitVec.cons true value)) s = .next (v.openBlock n value) := by
    rw [word, State.feedWord_of_marked, abandoned]
  refine ⟨fun hunt => ?_, fun length words collecting unfinished => ?_, fun status => ?_, fun least below => ?_,
    fun stray => ?_⟩
  · rw [word, State.feedWord_of_passedOver (sameAssembler.trans hunt)]
  · rw [word, State.feedWord_of_collected (sameAssembler.trans collecting) unfinished]
  · rw [marked, State.openBlock_of_status status]
  · rw [marked, State.openBlock_of_report least below]
  · have misroutes : v.qh.misroutes = s.qh.misroutes := by
      rw [← abandoned, State.misroutes_abandonBlock, ← passed, State.passWord]
    rw [marked, State.openBlock_of_stray stray, ← misroutes]
    rfl

end Sys2Proof.Machine

/-!
SUPPORT. The blocks of the Quality Highway: what the words of a block yield, and what becomes of a complete one.
-/

namespace Sys2Proof.Machine

open Sys2Proof

/-! ## The check word -/

theorem blockCheck_three (a b c : Nat) : blockCheck [a, b, c] = (a + 2 * b + 3 * c) % 128 := by
  simp only [blockCheck, weightedSum]
  congr 1
  omega

theorem blockCheck_four (a b c d : Nat) : blockCheck [a, b, c, d] = (a + 2 * b + 3 * c + 4 * d) % 128 := by
  simp only [blockCheck, weightedSum]
  congr 1
  omega

/-! ## Reference status blocks -/

theorem blockContents_of_status {r : RefNo} {reverse status check : Nat} (mirrored : reverse = 127 - r.val)
    (sum : check = (r.val + 2 * reverse + 3 * status) % 128) :
    blockContents [r.val, reverse, status, check]
      = some (.status r ⟨status % 16, Nat.mod_lt _ (by decide)⟩ (status.testBit 4)) := by
  have good : reverse = 127 - r.val ∧ check = blockCheck [r.val, reverse, status] :=
    ⟨mirrored, by rw [sum, blockCheck_three]⟩
  have flag : status.testBit 4 = decide (status / 16 % 2 = 1) := Nat.testBit_eq_decide_div_mod_eq
  rw [blockContents, dif_pos r.isLt, if_pos good, flag]

theorem blockContents_of_badStatus {tag reverse status check : Nat}
    (bad : 40 ≤ tag ∨ reverse ≠ 127 - tag ∨ check ≠ (tag + 2 * reverse + 3 * status) % 128) :
    blockContents [tag, reverse, status, check] = none := by
  rw [blockContents, blockCheck_three]
  split_ifs with known good
  · omega
  · rfl
  · rfl

/-- Four words yield a reference status or nothing (R53). -/
theorem blockContents_four (a b c d : Nat) :
    blockContents [a, b, c, d] = none ∨ ∃ r code defect, blockContents [a, b, c, d] = some (.status r code defect) := by
  rw [blockContents]
  split_ifs
  · exact .inr ⟨_, _, _, rfl⟩
  · exact .inl rfl
  · exact .inl rfl

/-! ## Shelf report blocks -/

theorem blockContents_of_report {h : ShelfNo} {reverse kind argument check : Nat}
    (mirrored : reverse = 127 - (64 + h.val))
    (sum : check = (64 + h.val + 2 * reverse + 3 * kind + 4 * argument) % 128) :
    blockContents [64 + h.val, reverse, kind, argument, check] = (cardReportOf kind argument).map (.card h) := by
  have tagged : 64 ≤ 64 + h.val ∧ 64 + h.val < 96 := by omega
  have good : reverse = 127 - (64 + h.val) ∧ check = blockCheck [64 + h.val, reverse, kind, argument] :=
    ⟨mirrored, by rw [sum, blockCheck_four]⟩
  have shelf (below : 64 + h.val - 64 < 32) : (⟨64 + h.val - 64, below⟩ : ShelfNo) = h :=
    Fin.ext (Nat.add_sub_cancel_left 64 h.val)
  rw [blockContents, dif_pos tagged, if_pos good, shelf]

theorem blockContents_of_badReport {tag reverse kind argument check : Nat}
    (bad : tag < 64 ∨ 96 ≤ tag ∨ reverse ≠ 127 - tag
      ∨ check ≠ (tag + 2 * reverse + 3 * kind + 4 * argument) % 128 ∨ cardReportOf kind argument = none) :
    blockContents [tag, reverse, kind, argument, check] = none := by
  rw [blockContents, blockCheck_four]
  split_ifs with known good
  · obtain ⟨least, below⟩ := known
    obtain ⟨mirrored, sum⟩ := good
    have noReport : cardReportOf kind argument = none := by
      rcases bad with low | high | reverse | check | none
      exacts [absurd least (by omega), absurd below (by omega), absurd mirrored reverse, absurd sum check, none]
    rw [noReport, Option.map_none]
  · rfl
  · rfl

/-- Five words yield a card report or nothing (R53). -/
theorem blockContents_five (a b c d e : Nat) :
    blockContents [a, b, c, d, e] = none ∨ ∃ h rep, blockContents [a, b, c, d, e] = some (.card h rep) := by
  rw [blockContents]
  split_ifs
  · rcases cardReportOf c d with _ | rep
    · exact .inl rfl
    · exact .inr ⟨_, rep, rfl⟩
  · exact .inl rfl
  · exact .inl rfl

theorem cardReportOf_acquiring (r : RefNo) : cardReportOf 2 r.val = some (.acquiring r) := dif_pos r.isLt

theorem cardReportOf_tracking (r : RefNo) : cardReportOf 3 r.val = some (.tracking r) := dif_pos r.isLt

/-- The kinds and arguments that name no report (R53, R168). -/
theorem cardReportOf_of_bad {kind argument : Nat}
    (bad : kind = 0 ∨ 6 ≤ kind ∨ (kind = 1 ∧ (argument = 0 ∨ 4 ≤ argument))
      ∨ ((kind = 2 ∨ kind = 3) ∧ 40 ≤ argument)) : cardReportOf kind argument = none := by
  rcases bad with rfl | large | ⟨rfl, rfl | large⟩ | ⟨rfl | rfl, outside⟩
  · rfl
  · match kind, large with
    | _ + 6, _ => rfl
  · rfl
  · match argument, large with
    | _ + 4, _ => rfl
  · exact dif_neg (by omega)
  · exact dif_neg (by omega)

/-! ## A complete block -/

theorem State.judgeBlock_of_bad {words : List WordValue} (bad : blockContents (words.map (·.toNat)) = none)
    (n : SlotNo) (s : State) : s.judgeBlock n words = s.countCheckError n := by
  simp only [State.judgeBlock, bad]

theorem State.judgeBlock_of_unbound {words : List WordValue} {d : Delivery} {n : SlotNo} {s : State}
    (good : blockContents (words.map (·.toNat)) = some d) (unbound : s.bound n d = false) :
    s.judgeBlock n words = s.countMisroute d.tag := by
  simp [State.judgeBlock, good, unbound]

theorem State.judgeBlock_of_bound {words : List WordValue} {d : Delivery} {n : SlotNo} {s : State}
    (good : blockContents (words.map (·.toNat)) = some d) (bound : s.bound n d = true) :
    s.judgeBlock n words = s.deliver d := by
  simp only [State.judgeBlock, good, bound, if_true]

@[simp] theorem State.bound_setAssembler (m n : SlotNo) (a : Assembler) (s : State) (d : Delivery) :
    (s.setAssembler m a).bound n d = s.bound n d := rfl

@[simp] theorem State.bound_passWord (m n : SlotNo) (f : Framing) (s : State) (d : Delivery) :
    (s.passWord m f).bound n d = s.bound n d := rfl

theorem State.bound_status_iff (s : State) (n : SlotNo) (r : RefNo) (code : Code) (defect : Bool) :
    s.bound n (.status r code defect) = true ↔ (s.ref r).cfg.slot = some n := beq_iff_eq

theorem State.bound_card_iff (s : State) (n : SlotNo) (h : ShelfNo) (rep : CardReport) :
    s.bound n (.card h rep) = true ↔ (s.shelf h).cfg.reportSlot = some n := beq_iff_eq

/-- The last word of a block is judged in its slot with the assembler back in HUNT (R52, R53). -/
theorem execWordReceived_of_completing {s : State} {n : SlotNo} {f : Framing} {length : Nat} {words : List WordValue}
    (running : s.resetHeld = false) (aligned : s.qh.framing = some f) (before : f.position < 384)
    (turn : f.position / 8 = n.val) (collecting : s.assembler n = .collect length words)
    (last : length ≤ words.length + 1) (value : WordValue) :
    exec (.wordReceived n.val (BitVec.cons false value)) s
      = .next (((s.passWord n f).setAssembler n .hunt).judgeBlock n (words ++ [value])) := by
  have sameAssembler := (State.assembler_passWord n n f s).trans collecting
  rw [execWordReceived_of_turn running aligned before turn, wordOf_cons,
    State.feedWord_of_completing sameAssembler last]

/-- Settles O19: the contents of both kinds of block, then the complete blocks that reach no record. -/
theorem blocksAreCheckedAndRouted : Obligations.BlocksAreCheckedAndRouted := by
  refine ⟨⟨fun tag reverse status check => ⟨?_, blockContents_of_badStatus⟩,
    fun tag reverse kind argument check => ⟨?_, fun bad => ?_⟩⟩, ?_⟩
  · rintro r rfl mirrored sum
    exact ⟨_, rfl, blockContents_of_status mirrored sum⟩
  · rintro h rfl mirrored sum
    rw [blockContents_of_report mirrored sum]
    refine ⟨?_, ?_, ?_, fun r => ?_, fun r => ?_, ?_, ?_⟩
    · rintro rfl rfl
      rfl
    · rintro rfl rfl
      rfl
    · rintro rfl rfl
      rfl
    · rintro rfl rfl
      rw [cardReportOf_acquiring, Option.map_some]
    · rintro rfl rfl
      rw [cardReportOf_tracking, Option.map_some]
    · rintro rfl
      rfl
    · rintro rfl
      rfl
  · exact blockContents_of_badReport
      (bad.imp_right (Or.imp_right (Or.imp_right (Or.imp_right cardReportOf_of_bad))))
  · intro s u n f length words value running aligned before turn collecting last hu
    have passed : (s.passWord n f).setAssembler n .hunt = u := hu.symm
    have word := execWordReceived_of_completing running aligned before turn collecting (Nat.le_of_eq last) value
    have sameBound (d : Delivery) : u.bound n d = s.bound n d := by
      rw [← passed, State.bound_setAssembler, State.bound_passWord]
    rw [passed] at word
    refine ⟨fun bad => ?_, fun r code defect good unbound => ?_, fun h rep good unbound => ?_⟩
    · rw [word, State.judgeBlock_of_bad bad, ← passed]
      rfl
    · have misrouted : u.bound n (.status r code defect) = false := by
        rwa [sameBound, ← Bool.not_eq_true, State.bound_status_iff]
      rw [word, State.judgeBlock_of_unbound good misrouted, ← passed]
      rfl
    · have misrouted : u.bound n (.card h rep) = false := by
        rwa [sameBound, ← Bool.not_eq_true, State.bound_card_iff]
      rw [word, State.judgeBlock_of_unbound good misrouted, ← passed]
      rfl

end Sys2Proof.Machine

/-!
SUPPORT. Requests that are refused whatever they ask: a type outside the catalogue, a body of the wrong size, a request
of MAINTENANCE in NORMAL, and a slot outside the table.
-/

namespace Sys2Proof.Machine

open Sys2Proof

/-! ## Bodies of the wrong size -/

/-- A request whose serving refuses every body that is not of its size answers BAD_LENGTH to one (R162). -/
theorem takeRequest_of_wrongSize {named : Nat → Bool} {serve : List Byte → State → Answer} {s : State} {f : Frame}
    {type size : Nat} (asks : s.asks type f) (names : named type = true)
    (sized : ∀ body : List Byte, body.length ≠ size → serve body s = refuse s .badLength [])
    (wrong : f.body.length ≠ size) :
    takeRequest named serve s = .next (s.replying f .badLength false []) := by
  rw [takeRequest_of_asks named serve s type f asks names, sized f.body wrong, State.sendReply_refuse]

/-- The requests whose body has one size: the type, the size and the command that takes it (R167, R170). -/
def sizedRequests : List (Nat × Nat × Instr) :=
  [(1, 23, .configureReference), (2, 1, .readReference), (3, 1, .clearRestore), (4, 4, .setOscillatorTrim),
    (5, 30, .loadCodePlan), (6, 1, .readCodePlan), (7, 2, .setGradeOverride), (9, 1, .readShelf),
    (10, 3, .setSelectionLimits), (11, 3, .switch), (12, 3, .lockout), (13, 2, .hold), (14, 2, .setHighway),
    (15, 0, .readHighway), (17, 2, .setReporting), (18, 1, .collect), (19, 0, .endService), (20, 1, .setMode),
    (21, 0, .readStatus), (22, 0, .reset)]

/-- Each of them tests the size of the body before anything else (R162). -/
theorem exec_of_wrongSize {s : State} {f : Frame} {row : Nat × Nat × Instr} (listed : row ∈ sizedRequests)
    (asks : s.asks row.1 f) (wrong : f.body.length ≠ row.2.1) :
    exec row.2.2 s = .next (s.replying f .badLength false []) := by
  revert row
  simp only [sizedRequests, List.forall_mem_cons, List.not_mem_nil, false_imp_iff, implies_true, and_true, exec]
  and_intros
  all_goals exact fun asks wrong => takeRequest_of_wrongSize asks rfl (fun _ other => if_pos other) wrong

/-! ## Frames of a type outside the catalogue -/

theorem knownType_iff (n : Nat) : knownType n = true ↔ 1 ≤ n ∧ n ≤ 22 := by
  simp [knownType]

theorem execUnknownRequestType_of_unknown {s : State} {f : Frame} (asks : s.asks f.type.toNat f)
    (unknown : knownType f.type.toNat = false) :
    exec .unknownRequestType s = .next (s.replying f .badType false []) := by
  rw [exec, execUnknownRequestType, takeRequest_of_asks _ _ s _ f asks (by simp [unknown]), serveUnknownType,
    State.sendReply_refuse]

theorem execUnknownRequestType_of_known {s : State} {f : Frame} (front : s.port.buffer.head? = some f)
    (known : knownType f.type.toNat = true) : exec .unknownRequestType s = .next s := by
  rw [exec, execUnknownRequestType, takeRequest]
  refine event_of_unchanged ?_
  unfold State.waiting
  split
  · rename_i g waiting
    have taken : g = f := by
      split at waiting
      · exact Option.some.inj (waiting.symm.trans front)
      · cases waiting
    simp [taken, known]
  · rfl

/-! ## CONFIGURE SHELF, SET GRADE OVERRIDE and INJECT BLOCK -/

theorem serveConfigureShelf_of_wrongSize {body : List Byte}
    (wrong : body.length < 20 ∨ body.length ≠ 20 + 2 * byteAt body 19) (s : State) :
    serveConfigureShelf body s = refuse s .badLength [] := if_pos wrong

theorem serveSetGradeOverride_of_normal {body : List Byte} {s : State} (size : body.length = 2)
    (normal : s.port.mode = .normal) : serveSetGradeOverride body s = refuse s .mode [] := by
  simp only [serveSetGradeOverride, size, ne_eq, not_true_eq_false, if_false, normal, if_true]

theorem serveInjectBlock_of_wrongSize {body : List Byte} (notFive : body.length ≠ 5) (notSix : body.length ≠ 6)
    (s : State) : serveInjectBlock body s = refuse s .badLength [] := if_pos ⟨notFive, notSix⟩

theorem serveInjectBlock_of_normal {body : List Byte} {s : State} (size : body.length = 5 ∨ body.length = 6)
    (normal : s.port.mode = .normal) : serveInjectBlock body s = refuse s .mode [] := by
  have sized : ¬ (body.length ≠ 5 ∧ body.length ≠ 6) := by omega
  rw [serveInjectBlock, if_neg sized, if_pos normal]

/-- The body of INJECT BLOCK: a slot number and the four or five words of a block (R59, R170). -/
theorem injectBody_sized {words : List Byte} (count : words.length = 4 ∨ words.length = 5) (n : Nat) :
    ¬ ((put8 n ++ words).length ≠ 5 ∧ (put8 n ++ words).length ≠ 6) := by
  rw [List.length_append, length_put8]
  omega

theorem serveInjectBlock_of_outside {s : State} {n : Nat} {words : List Byte}
    (maintenance : s.port.mode = .maintenance) (count : words.length = 4 ∨ words.length = 5) (least : 48 ≤ n)
    (most : n ≤ 255) :
    serveInjectBlock (put8 n ++ words) s = refuse s .badIndex [] := by
  have notNormal : ¬ s.port.mode = .normal := by simp [maintenance]
  have outside : ¬ byteAt (put8 n ++ words) 0 < 48 := by
    rw [byteAt_put8_append most]
    omega
  rw [serveInjectBlock, if_neg (injectBody_sized count n), if_neg notNormal, dif_neg outside]

theorem execConfigureShelf_of_asks {s : State} {f : Frame} (asks : s.asks 8 f) :
    exec .configureShelf s = .next (State.sendReply f (serveConfigureShelf f.body s)) := by
  rw [exec, execConfigureShelf, takeRequest_of_asks _ _ s 8 f asks rfl]

theorem execSetGradeOverride_of_asks {s : State} {f : Frame} (asks : s.asks 7 f) :
    exec .setGradeOverride s = .next (State.sendReply f (serveSetGradeOverride f.body s)) := by
  rw [exec, execSetGradeOverride, takeRequest_of_asks _ _ s 7 f asks rfl]

theorem execInjectBlock_of_asks {s : State} {f : Frame} (asks : s.asks 16 f) :
    exec .injectBlock s = .next (State.sendReply f (serveInjectBlock f.body s)) := by
  rw [exec, execInjectBlock, takeRequest_of_asks _ _ s 16 f asks rfl]

/-- Settles O35, refusal by refusal in the order of R162. -/
theorem wrongRequestsAreRefused : Obligations.WrongRequestsAreRefused := by
  refine ⟨fun s f running idle front => ?_, fun s f n words asks maintenance body count least most => ?_⟩
  · have asks {type : Nat} (isType : f.type.toNat = type) : s.asks type f := ⟨running, idle, front, isType⟩
    refine ⟨fun outside => ?_, fun least most => ?_, fun type size c listed isType wrong => ?_, fun isType wrong => ?_,
      fun isType notFive notSix => ?_, fun isType size normal => ?_, fun isType size normal => ?_⟩
    · refine execUnknownRequestType_of_unknown (asks rfl) ?_
      rw [← Bool.not_eq_true, knownType_iff]
      omega
    · exact execUnknownRequestType_of_known front ((knownType_iff _).2 ⟨least, most⟩)
    · exact exec_of_wrongSize (row := (type, size, c)) listed (asks isType) wrong
    · rw [execConfigureShelf_of_asks (asks isType), serveConfigureShelf_of_wrongSize wrong, State.sendReply_refuse]
    · rw [execInjectBlock_of_asks (asks isType), serveInjectBlock_of_wrongSize notFive notSix, State.sendReply_refuse]
    · rw [execInjectBlock_of_asks (asks isType), serveInjectBlock_of_normal size normal, State.sendReply_refuse]
    · rw [execSetGradeOverride_of_asks (asks isType), serveSetGradeOverride_of_normal size normal,
        State.sendReply_refuse]
  · rw [execInjectBlock_of_asks asks, body, serveInjectBlock_of_outside maintenance count least most,
      State.sendReply_refuse]

end Sys2Proof.Machine

/-!
SUPPORT. INJECT BLOCK: the words fed one after another, the blocks they deliver, and what stays of the highway.
-/

namespace Sys2Proof.Machine

open Sys2Proof

/-! ## What a word leaves of the highway -/

/-- The highway's alignment, the Message Port, the clocks and the outgoing highway are as they were. -/
structure KeepsFraming (s t : State) : Prop where
  framing : t.qh.framing = s.qh.framing
  missing : t.qh.missing = s.qh.missing
  pulseMode : t.qh.pulseMode = s.qh.pulseMode
  port : t.port = s.port
  time : t.time = s.time
  dh : t.dh = s.dh

theorem KeepsFraming.refl (s : State) : KeepsFraming s s := ⟨rfl, rfl, rfl, rfl, rfl, rfl⟩

theorem KeepsFraming.trans {s t u : State} (a : KeepsFraming s t) (b : KeepsFraming t u) : KeepsFraming s u where
  framing := b.framing.trans a.framing
  missing := b.missing.trans a.missing
  pulseMode := b.pulseMode.trans a.pulseMode
  port := b.port.trans a.port
  time := b.time.trans a.time
  dh := b.dh.trans a.dh

theorem KeepsHardware.keepsFraming {s t : State} (a : KeepsHardware s t) : KeepsFraming s t :=
  ⟨by rw [a.qh], by rw [a.qh], by rw [a.qh], a.port, a.time, a.dh⟩

theorem State.post_keepsFraming (rep : Report) (s : State) : KeepsFraming s (s.post rep) :=
  (s.post_shelfMove rep).keepsHardware.keepsFraming

theorem State.setAssembler_keepsFraming (n : SlotNo) (a : Assembler) (s : State) :
    KeepsFraming s (s.setAssembler n a) := ⟨rfl, rfl, rfl, rfl, rfl, rfl⟩

/-- A write of the receiver's counters with a report posted after it. -/
theorem State.reportReceiver_keepsFraming {s : State} {x : QhReceiver} {rep : Report}
    (framing : x.framing = s.qh.framing) (missing : x.missing = s.qh.missing)
    (pulseMode : x.pulseMode = s.qh.pulseMode) : KeepsFraming s (State.post rep { s with qh := x }) := by
  have written : KeepsFraming s { s with qh := x } := ⟨framing, missing, pulseMode, rfl, rfl, rfl⟩
  exact written.trans (State.post_keepsFraming rep _)

theorem State.countCheckError_keepsFraming (n : SlotNo) (s : State) : KeepsFraming s (s.countCheckError n) :=
  State.reportReceiver_keepsFraming rfl rfl rfl

theorem State.countMarkError_keepsFraming (n : SlotNo) (s : State) : KeepsFraming s (s.countMarkError n) :=
  State.reportReceiver_keepsFraming rfl rfl rfl

theorem State.countMisroute_keepsFraming (tag : Nat) (s : State) : KeepsFraming s (s.countMisroute tag) :=
  State.reportReceiver_keepsFraming rfl rfl rfl

theorem State.openBlock_keepsFraming (n : SlotNo) (tag : WordValue) (s : State) :
    KeepsFraming s (s.openBlock n tag) := by
  unfold State.openBlock
  split_ifs
  · exact s.setAssembler_keepsFraming n _
  · exact s.setAssembler_keepsFraming n _
  · exact (s.setAssembler_keepsFraming n _).trans (State.countMisroute_keepsFraming _ _)

theorem State.judgeBlock_keepsFraming (n : SlotNo) (words : List WordValue) (s : State) :
    KeepsFraming s (s.judgeBlock n words) := by
  unfold State.judgeBlock
  split
  · exact s.countCheckError_keepsFraming n
  · split
    · exact (s.deliver_keepsHardware _).keepsFraming
    · exact s.countMisroute_keepsFraming _

theorem State.feedWord_keepsFraming (n : SlotNo) (w : HighwayWord) (s : State) : KeepsFraming s (s.feedWord n w) := by
  unfold State.feedWord
  split
  · exact .refl s
  · exact s.openBlock_keepsFraming n _
  · split
    · exact (s.setAssembler_keepsFraming n _).trans (State.judgeBlock_keepsFraming n _ _)
    · exact s.setAssembler_keepsFraming n _
  · exact (s.countMarkError_keepsFraming n).trans (State.openBlock_keepsFraming n _ _)

theorem State.feedWords_keepsFraming (n : SlotNo) (words : List Byte) (s : State) :
    KeepsFraming s (s.feedWords n words).1 :=
  State.feedWords_induction n (fun w u kept => kept.trans (u.feedWord_keepsFraming n w)) words s (.refl s)

/-! ## The words in turn -/

/-- The words are fed one after another, each as the highway's words are. -/
theorem State.feedWords_state (n : SlotNo) (words : List Byte) (s : State) :
    (s.feedWords n words).1 = words.foldl (fun u b => u.feedWord n (wordOf b)) s := by
  induction words generalizing s with
  | nil => rfl
  | cons b rest ih => exact ih (s.feedWord n (wordOf b))

/-- The words counted are those that deliver a block to the state in which they are fed. -/
theorem State.feedWords_count (n : SlotNo) (words : List Byte) (s : State) :
    (s.feedWords n words).2
      = ((List.range words.length).filter fun i => State.wordDelivers n (wordOf (words.getD i 0))
          ((words.take i).foldl (fun u b => u.feedWord n (wordOf b)) s)).length := by
  induction words generalizing s with
  | nil => rfl
  | cons b rest ih =>
    have later := ih (s.feedWord n (wordOf b))
    rw [List.length_cons, List.range_succ_eq_map, List.filter_cons, List.filter_map]
    simp only [State.feedWords, later, List.getD_cons_zero, List.take_zero, List.foldl_nil, Function.comp_def,
      List.getD_cons_succ, List.take_succ_cons, List.foldl_cons]
    split_ifs <;> simp

/-! ## Words of one block -/

theorem State.setAssembler_setAssembler (n : SlotNo) (a b : Assembler) (s : State) :
    (s.setAssembler n a).setAssembler n b = s.setAssembler n b := by
  simp [State.setAssembler]

@[simp] theorem State.assembler_setAssembler_same (n : SlotNo) (a : Assembler) (s : State) :
    (s.setAssembler n a).assembler n = a := by
  simp [State.assembler_setAssembler]

/-- A marked word that meets HUNT delivers nothing and opens its block. -/
theorem State.feedWords_of_opening {s : State} {n : SlotNo} {tag : WordValue} (hunt : s.assembler n = .hunt)
    (rest : List Byte) :
    s.feedWords n (BitVec.cons true tag :: rest) = (s.openBlock n tag).feedWords n rest := by
  have quiet : s.wordDelivers n ⟨true, tag⟩ = false := by simp only [State.wordDelivers, hunt]
  simp [State.feedWords, wordOf_cons, State.feedWord_of_marked, State.abandonBlock, hunt, quiet]

theorem State.wordDelivers_of_collected {s : State} {n : SlotNo} {length : Nat} {words : List WordValue}
    (collecting : s.assembler n = .collect length words) (unfinished : words.length + 1 < length)
    (value : WordValue) : s.wordDelivers n ⟨false, value⟩ = false := by
  simp only [State.wordDelivers, collecting, decide_eq_false (Nat.not_le_of_lt unfinished), Bool.false_and]

/-- Unmarked words that leave the block unfinished are collected and deliver nothing. -/
theorem State.feedWords_of_collecting (n : SlotNo) (s : State) {length : Nat} (held values : List WordValue)
    (unfinished : held.length + values.length < length) (rest : List Byte) :
    (s.setAssembler n (.collect length held)).feedWords n (values.map (BitVec.cons false) ++ rest)
      = (s.setAssembler n (.collect length (held ++ values))).feedWords n rest := by
  induction values generalizing held with
  | nil => simp
  | cons value values ih =>
    have collecting := s.assembler_setAssembler_same n (.collect length held)
    have room : held.length + 1 < length := by
      rw [List.length_cons] at unfinished
      omega
    have later := ih (held ++ [value]) (by simp at unfinished ⊢; omega)
    rw [List.append_assoc, List.singleton_append] at later
    rw [← later]
    simp [State.feedWords, wordOf_cons, State.feedWord_of_collected collecting room,
      State.wordDelivers_of_collected collecting room, State.setAssembler_setAssembler]

/-- A whole block that meets HUNT is judged, and is the one block delivered where it is accepted. -/
theorem State.feedWords_of_block {s : State} {n : SlotNo} {length : Nat} {tag : WordValue}
    (hunt : s.assembler n = .hunt) (opens : s.openBlock n tag = s.setAssembler n (.collect length [tag]))
    (values : List WordValue) (last : WordValue) (whole : values.length + 2 = length) :
    s.feedWords n (BitVec.cons true tag :: (values.map (BitVec.cons false) ++ [BitVec.cons false last]))
      = ((s.setAssembler n .hunt).judgeBlock n (tag :: values ++ [last]),
          if (s.accepted n (tag :: values ++ [last])).isSome then 1 else 0) := by
  have collecting := s.assembler_setAssembler_same n (.collect length (tag :: values))
  have complete : length ≤ (tag :: values).length + 1 := by
    rw [List.length_cons]
    omega
  have delivers : (s.setAssembler n (.collect length (tag :: values))).wordDelivers n ⟨false, last⟩
      = (s.accepted n (tag :: values ++ [last])).isSome := by
    simp only [State.wordDelivers, collecting, complete, decide_true, Bool.true_and]
    rfl
  rw [State.feedWords_of_opening hunt, opens,
    State.feedWords_of_collecting n s [tag] values (by simp; omega), List.singleton_append]
  simp only [State.feedWords, wordOf_cons, State.feedWord_of_completing collecting complete,
    State.setAssembler_setAssembler, delivers, Nat.zero_add]

theorem State.assemblers_judgeBlock (n : SlotNo) (words : List WordValue) (s : State) :
    (s.judgeBlock n words).qh.assemblers = s.qh.assemblers := by
  unfold State.judgeBlock
  split
  · rw [State.countCheckError, State.post_qh]
  · rename_i d _
    split
    · rw [(s.deliver_keepsHardware d).qh]
    · rw [State.countMisroute, State.post_qh]

theorem State.assembler_judgeBlock (n m : SlotNo) (words : List WordValue) (s : State) :
    (s.judgeBlock n words).assembler m = s.assembler m := by
  simp only [State.assembler, State.assemblers_judgeBlock]

theorem State.accepted_of_bad {words : List WordValue} (bad : blockContents (words.map (·.toNat)) = none)
    (s : State) (n : SlotNo) : (s.accepted n words).isSome = false := by
  rw [State.accepted, bad]
  rfl

theorem State.accepted_of_good {words : List WordValue} {d : Delivery}
    (good : blockContents (words.map (·.toNat)) = some d) (s : State) (n : SlotNo) :
    (s.accepted n words).isSome = s.bound n d := by
  rw [State.accepted, good, Option.filter_some]
  cases s.bound n d <;> rfl

/-! ## The request -/

theorem serveInjectBlock_of_slot {s : State} {words : List Byte} (maintenance : s.port.mode = .maintenance)
    (count : words.length = 4 ∨ words.length = 5) (n : SlotNo) :
    serveInjectBlock (put8 n.val ++ words) s
      = accept (s.feedWords n words).1 false
          (put8 (s.feedWords n words).2 ++ ((s.feedWords n words).1.assembler n).put) := by
  have notNormal : ¬ s.port.mode = .normal := by simp [maintenance]
  have number : byteAt (put8 n.val ++ words) 0 = n.val := byteAt_put8_append (by omega) words
  have known : byteAt (put8 n.val ++ words) 0 < 48 := by
    rw [number]
    exact n.isLt
  have slot : (⟨byteAt (put8 n.val ++ words) 0, known⟩ : SlotNo) = n := Fin.ext number
  rw [serveInjectBlock, if_neg (injectBody_sized count n.val), if_neg notNormal, dif_pos known, slot]
  rfl

theorem execInjectBlock_of_slot {s : State} {f : Frame} {n : SlotNo} {words : List Byte} (asks : s.asks 16 f)
    (maintenance : s.port.mode = .maintenance) (body : f.body = put8 n.val ++ words)
    (count : words.length = 4 ∨ words.length = 5) :
    exec .injectBlock s = .next ((s.feedWords n words).1.replying f .ok false
      (put8 (s.feedWords n words).2 ++ ((s.feedWords n words).1.assembler n).put)) := by
  rw [execInjectBlock_of_asks asks, body, serveInjectBlock_of_slot maintenance count, State.sendReply_accept]

/-- A whole block injected into an assembler in HUNT: the number delivered and HUNT are replied. -/
theorem execInjectBlock_of_block {s : State} {f : Frame} {n : SlotNo} {words : List Byte} {length : Nat}
    {tag last : WordValue} {values : List WordValue} (asks : s.asks 16 f) (maintenance : s.port.mode = .maintenance)
    (body : f.body = put8 n.val ++ words) (count : words.length = 4 ∨ words.length = 5)
    (hunt : s.assembler n = .hunt) (opens : s.openBlock n tag = s.setAssembler n (.collect length [tag]))
    (block : words = BitVec.cons true tag :: (values.map (BitVec.cons false) ++ [BitVec.cons false last]))
    (whole : values.length + 2 = length) :
    ∃ t : State, exec .injectBlock s = .next (t.replying f .ok false
      [if (s.accepted n (tag :: values ++ [last])).isSome then 1 else 0, 0, 0]) := by
  refine ⟨(s.feedWords n words).1, (execInjectBlock_of_slot asks maintenance body count).trans ?_⟩
  rw [block, State.feedWords_of_block hunt opens values last whole]
  dsimp only
  rw [State.assembler_judgeBlock, State.assembler_setAssembler_same]
  cases (s.accepted n (tag :: values ++ [last])).isSome <;> rfl

/-- Settles O48: any words one after another, then words that only collect, then a whole block of either kind. -/
theorem injectBlockFeedsTheAssembler : Obligations.InjectBlockFeedsTheAssembler := by
  intro s f n words asks maintenance body count
  have injected := execInjectBlock_of_slot asks maintenance body count
  refine ⟨?_, fun v1 v2 v3 v4 hunt least below block => ?_, fun v1 v2 v3 v4 delivered hunt status block hd => ?_,
    fun v1 v2 v3 v4 v5 delivered hunt least below block hd => ?_⟩
  · have kept := s.feedWords_keepsFraming n words
    refine ⟨(s.feedWords n words).1, (s.feedWords n words).2, ?_, s.feedWords_state n words, s.feedWords_count n words,
      kept.framing, kept.missing, kept.pulseMode, kept.port, kept.time, kept.dh⟩
    refine injected.trans ?_
    cases (s.feedWords n words).1.assembler n <;> rfl
  · have collected := State.feedWords_of_collecting n s (length := 5) [v1] [v2, v3, v4] (Nat.lt_add_one 4) []
    have fed : s.feedWords n words = (s.setAssembler n (.collect 5 [v1, v2, v3, v4]), 0) := by
      rw [block, State.feedWords_of_opening hunt, State.openBlock_of_report least below]
      exact collected
    rw [injected, fed]
    dsimp only
    rw [State.assembler_setAssembler_same]
    rfl
  · have opens := State.openBlock_of_status status n s
    obtain ⟨t, effect⟩ := execInjectBlock_of_block (values := [v2, v3]) asks maintenance body count hunt opens block rfl
    have one : delivered = if (s.accepted n [v1, v2, v3, v4]).isSome then 1 else 0 := by
      rcases blockContents_four v1.toNat v2.toNat v3.toNat v4.toNat with bad | ⟨r, code, defect, good⟩
      · rw [hd, bad, State.accepted_of_bad (words := [v1, v2, v3, v4]) bad]
        rfl
      · rw [hd, good, State.accepted_of_good (words := [v1, v2, v3, v4]) good]
        exact (if_congr (s.bound_status_iff n r code defect) rfl rfl).symm
    exact ⟨t, effect.trans (by rw [one]; rfl)⟩
  · have opens := State.openBlock_of_report least below n s
    obtain ⟨t, effect⟩ := execInjectBlock_of_block (values := [v2, v3, v4]) asks maintenance body count hunt opens block
      rfl
    have one : delivered = if (s.accepted n [v1, v2, v3, v4, v5]).isSome then 1 else 0 := by
      rcases blockContents_five v1.toNat v2.toNat v3.toNat v4.toNat v5.toNat with bad | ⟨h, rep, good⟩
      · rw [hd, bad, State.accepted_of_bad (words := [v1, v2, v3, v4, v5]) bad]
        rfl
      · rw [hd, good, State.accepted_of_good (words := [v1, v2, v3, v4, v5]) good]
        exact (if_congr (s.bound_card_iff n h rep) rfl rfl).symm
    exact ⟨t, effect.trans (by rw [one]; rfl)⟩

end Sys2Proof.Machine

/-!
SUPPORT. The grades a state holds, the grades derived from them, and the operations on shelves and references that
keep them valid.
-/

namespace Sys2Proof.Machine

open Sys2Proof

/-! ## Grades held and grades derived -/

/-- The carried grade of a timing state, present in ACQUIRE with origin LOCKED (R73). -/
def Timing.carried : Timing → Option Nat
  | .acquire _ o _ => o.carried
  | _ => none

theorem Shelf.carried_eq (x : Shelf) : x.carried = x.timing.bind Timing.carried := by
  unfold Shelf.carried
  rcases x.timing with _ | _ | ⟨_, _ | _ | _, _⟩ | _ | _ <;> rfl

/-- The grades that the references, the code plans and the shelves hold: the part of State.gradesSound that is not
derived. -/
structure State.HoldsGrades (s : State) : Prop where
  ref : ∀ r : RefNo, (s.ref r).gradesSound
  planA : s.refs.planA.sound
  planB : s.refs.planB.sound
  shelf : ∀ h : ShelfNo, (s.shelf h).gradesSound

theorem gradeValid_of_mem {g : Nat} (h : g ∈ List.range' 1 12) : gradeValid g = true := by
  simp only [List.mem_range'_1] at h
  simp only [gradeValid, Bool.or_eq_true, Bool.and_eq_true, decide_eq_true_eq]
  omega

theorem State.HoldsGrades.plan {s : State} (holds : s.HoldsGrades) (p : PlanName) : (s.plan p).sound := by
  cases p with
  | a => exact holds.planA
  | b => exact holds.planB

/-- Each row of R68 yields a grade that is held. -/
theorem State.HoldsGrades.localGrade {s : State} (holds : s.HoldsGrades) (r : RefNo) :
    gradeValid (s.localGrade r) = true := by
  obtain ⟨fixed, stale, override⟩ := holds.ref r
  unfold State.localGrade
  rcases given : (s.ref r).run.override with _ | g
  · rcases (s.ref r).cfg.gradeSource with _ | _ | _
    · rcases (s.ref r).run.adopted with _ | c
      · exact stale
      · exact holds.plan _ c
    · exact fixed
    · exact fixed
  · simpa [given] using override

/-- Each row of R92 yields a grade that is held, the traced grade of another shelf, or 15. -/
theorem State.HoldsGrades.tracedFrom {s : State} (holds : s.HoldsGrades) (fuel : Nat) (h : ShelfNo) :
    gradeValid (s.tracedFrom fuel h) = true := by
  induction fuel generalizing h with
  | zero => rfl
  | succ n ih =>
    obtain ⟨-, holdover, freeRun, carried⟩ := holds.shelf h
    have held (o : Holdover) : gradeValid ((s.shelf h).cfg.holdoverTrace o) = true := by
      unfold ShelfConfig.holdoverTrace
      split
      · exact gradeValid_of_mem freeRun
      · exact gradeValid_of_mem holdover
    rw [Shelf.carried_eq] at carried
    unfold State.tracedFrom
    rcases timing : (s.shelf h).timing with _ | _ | ⟨r, _ | _ | _, _⟩ | ⟨r, _⟩ | _
    · rfl
    · exact gradeValid_of_mem freeRun
    · simpa [timing, Timing.carried, Origin.carried] using carried
    · exact held _
    · exact gradeValid_of_mem freeRun
    · dsimp only
      split
      · rcases (s.ref r).cfg.homeShelf with _ | t
        · rfl
        · exact ih t
      · exact holds.localGrade r
    · exact held _

theorem State.HoldsGrades.tracedGrade {s : State} (holds : s.HoldsGrades) (h : ShelfNo) :
    gradeValid (s.tracedGrade h) = true := holds.tracedFrom Config.chainFuel h

theorem State.HoldsGrades.effectiveGrade {s : State} (holds : s.HoldsGrades) (r : RefNo) :
    gradeValid (s.effectiveGrade r) = true := by
  unfold State.effectiveGrade
  split
  · rcases (s.ref r).cfg.homeShelf with _ | t
    · rfl
    · exact holds.tracedGrade t
  · exact holds.localGrade r

/-- The grades derived are valid where the grades held are. -/
theorem State.holdsGrades_iff (s : State) : s.HoldsGrades ↔ s.gradesSound :=
  ⟨fun holds => ⟨holds.ref, holds.planA, holds.planB, holds.shelf, holds.effectiveGrade, holds.tracedGrade⟩,
    fun ⟨ref, planA, planB, shelf, _, _⟩ => ⟨ref, planA, planB, shelf⟩⟩

/-! ## What keeps the grades held -/

/-- The grades that t holds are valid where those that s holds are. -/
def KeepsGrades (s t : State) : Prop := s.HoldsGrades → t.HoldsGrades

theorem KeepsGrades.refl (s : State) : KeepsGrades s s := id

theorem KeepsGrades.trans {s t u : State} (a : KeepsGrades s t) (b : KeepsGrades t u) : KeepsGrades s u := b ∘ a

theorem State.shelf_congr {s t : State} (shelves : t.engine.shelves = s.engine.shelves) (h : ShelfNo) :
    t.shelf h = s.shelf h := by
  unfold State.shelf
  rw [shelves]

/-- Records of references that stay valid, beside code plans and shelves that are not written. -/
theorem KeepsGrades.of_records {s t : State} (ref : ∀ r, (s.ref r).gradesSound → (t.ref r).gradesSound)
    (planA : t.refs.planA = s.refs.planA) (planB : t.refs.planB = s.refs.planB)
    (shelves : t.engine.shelves = s.engine.shelves) : KeepsGrades s t := fun holds =>
  ⟨fun r => ref r (holds.ref r), planA ▸ holds.planA, planB ▸ holds.planB,
    fun h => State.shelf_congr shelves h ▸ holds.shelf h⟩

/-- Nothing that holds a grade is written. -/
theorem KeepsGrades.of_tables {s t : State} (refs : t.refs = s.refs)
    (shelves : t.engine.shelves = s.engine.shelves) : KeepsGrades s t :=
  .of_records (fun r sound => State.ref_congr refs r ▸ sound) (by rw [refs]) (by rw [refs]) shelves

theorem State.post_keepsGrades (rep : Report) (s : State) : KeepsGrades s (s.post rep) :=
  .of_tables (s.post_refs rep) (by rw [State.post_engine])

theorem State.leavePassPending_keepsGrades (s : State) : KeepsGrades s s.leavePassPending := .of_tables rfl rfl

theorem State.handOnGrades_keepsGrades (before s : State) : KeepsGrades s (before.handOnGrades s) :=
  .of_tables (before.handOnGrades_refs s) (by rw [State.handOnGrades_eq])

theorem State.regrading_keepsGrades {f : State → State} {s : State} (h : KeepsGrades s (f s)) :
    KeepsGrades s (State.regrading f s) := h.trans (s.handOnGrades_keepsGrades (f s))

/-! ## Writing one record -/

theorem State.setShelf_keepsGrades (h : ShelfNo) {x : Shelf} {s : State} (sound : s.HoldsGrades → x.gradesSound) :
    KeepsGrades s (s.setShelf h x) := fun holds =>
  { holds with
    shelf := fun g => by
      rw [State.shelf_setShelf]
      split
      · exact sound holds
      · exact holds.shelf g }

/-- A shelf record written with its configuration and admission as they were. -/
theorem State.setShelf_keepsGrades_of_same (h : ShelfNo) {x : Shelf} {s : State} (cfg : x.cfg = (s.shelf h).cfg)
    (admission : x.admission = (s.shelf h).admission) : KeepsGrades s (s.setShelf h x) :=
  State.setShelf_keepsGrades h fun holds => by
    obtain ⟨minimum, holdover, freeRun, carried⟩ := holds.shelf h
    refine ⟨cfg ▸ minimum, cfg ▸ holdover, cfg ▸ freeRun, ?_⟩
    simpa only [Shelf.carried_eq, Shelf.timing, Shelf.card, admission] using carried

/-- An admission written in which no grade is carried. -/
theorem State.setShelf_keepsGrades_of_admission (h : ShelfNo) {a : Admission} {s : State}
    (carried : ({ s.shelf h with admission := a } : Shelf).carried = none) :
    KeepsGrades s (s.setShelf h { s.shelf h with admission := a }) :=
  State.setShelf_keepsGrades h fun holds => by
    obtain ⟨minimum, holdover, freeRun, -⟩ := holds.shelf h
    exact ⟨minimum, holdover, freeRun, by rw [carried]; rfl⟩

theorem State.setAdmission_keepsGrades (h : ShelfNo) {a : Admission} {s : State}
    (carried : ({ s.shelf h with admission := a } : Shelf).carried = none) : KeepsGrades s (s.setAdmission h a) :=
  (State.setShelf_keepsGrades_of_admission h carried).trans (State.leavePassPending_keepsGrades _)

theorem Shelf.card_eq_some_iff (x : Shelf) (c : JoinedCard) : x.card = some c ↔ x.admission = .joined c := by
  unfold Shelf.card
  split <;> simp_all

/-- What a joined shelf holds is changed, and the grade it then carries is valid. -/
theorem State.mapCard_keepsGrades (h : ShelfNo) {f : JoinedCard → JoinedCard} {s : State}
    (valid : s.HoldsGrades → ∀ c, (s.shelf h).card = some c → (f c).timing.carried.all gradeValid = true) :
    KeepsGrades s (s.mapCard h f) := by
  unfold State.mapCard
  split
  · rename_i c joined
    refine State.setShelf_keepsGrades h fun holds => ?_
    obtain ⟨minimum, holdover, freeRun, -⟩ := holds.shelf h
    refine ⟨minimum, holdover, freeRun, ?_⟩
    rw [Shelf.carried_eq]
    exact valid holds c joined
  · exact .refl s

/-- What a joined shelf holds is changed, and the grade it carries is the one it carried. -/
theorem State.mapCard_keepsGrades_of_carried (h : ShelfNo) {f : JoinedCard → JoinedCard} (s : State)
    (same : ∀ c, (f c).timing.carried = c.timing.carried) : KeepsGrades s (s.mapCard h f) :=
  State.mapCard_keepsGrades h fun holds c joined => by
    obtain ⟨-, -, -, carried⟩ := holds.shelf h
    rw [same]
    simpa [Shelf.carried_eq, Shelf.timing, joined] using carried

theorem State.setRun_keepsGrades (r : RefNo) {f : RefRunning → RefRunning} {s : State}
    (override : (s.ref r).run.override.all gradeValid = true → (f (s.ref r).run).override.all gradeValid = true) :
    KeepsGrades s (s.setRun r f) :=
  .of_records (fun q ⟨fixed, stale, valid⟩ => by
    by_cases e : q = r
    · subst e
      rw [State.ref_setRun_same]
      exact ⟨fixed, stale, override valid⟩
    · rw [State.ref_setRun_of_ne f s e]
      exact ⟨fixed, stale, valid⟩) rfl rfl rfl

theorem State.setChan_keepsGrades (r : RefNo) (x : Channel) (s : State) : KeepsGrades s (s.setChan r x) :=
  .of_tables rfl rfl

/-! ## Moving a shelf -/

theorem State.setTiming_keepsGrades (h : ShelfNo) {t : Timing} {s : State}
    (valid : s.HoldsGrades → t.carried.all gradeValid = true) : KeepsGrades s (s.setTiming h t) :=
  (State.mapCard_keepsGrades h fun holds _ _ => valid holds).trans (State.leavePassPending_keepsGrades _)

theorem State.moveShelf_keepsGrades (h : ShelfNo) {t : Timing} {s : State}
    (valid : s.HoldsGrades → t.carried.all gradeValid = true) : KeepsGrades s (s.moveShelf h t) :=
  (State.setTiming_keepsGrades h valid).trans (State.post_keepsGrades _ _)

@[simp] theorem State.qualifyFallback_carried (s : State) (h : ShelfNo) (since : Nat) :
    (s.qualifyFallback h since).carried = none := by
  unfold State.qualifyFallback
  split <;> rfl

@[simp] theorem State.acquireFallback_carried (s : State) (o : Origin) : (s.acquireFallback o).carried = none := by
  rcases o with ⟨_ | _, _⟩ | _ | _ <;> rfl

theorem State.leaveLocked_keepsGrades (h : ShelfNo) (s : State) : KeepsGrades s (s.leaveLocked h) := by
  unfold State.leaveLocked
  split
  · exact State.moveShelf_keepsGrades h fun _ => by simp
  · exact .refl s

theorem State.leaveAcquire_keepsGrades (h : ShelfNo) (rep : RefNo → Report) (s : State) :
    KeepsGrades s (s.leaveAcquire h rep) := by
  unfold State.leaveAcquire
  split
  · exact ((State.setTiming_keepsGrades h fun _ => by simp).trans (State.post_keepsGrades _ _)).trans
      (State.post_keepsGrades _ _)
  · exact .refl s

theorem State.takeOff_keepsGrades (h : ShelfNo) (r : RefNo) (s : State) : KeepsGrades s (s.takeOff h r) := by
  unfold State.takeOff
  split_ifs
  · exact s.leaveAcquire_keepsGrades h _
  · exact s.leaveLocked_keepsGrades h
  · exact .refl s

/-- A grade is carried into ACQUIRE from LOCKED, the traced grade, and in ACQUIRE it stays the one carried (R83). -/
theorem State.HoldsGrades.acquireOrigin {s : State} (holds : s.HoldsGrades) {h : ShelfNo} {t : Timing}
    (timing : (s.shelf h).timing = some t) : (s.acquireOrigin h t).carried.all gradeValid = true := by
  cases t with
  | freeRun => rfl
  | acquire r o x =>
    obtain ⟨-, -, -, carried⟩ := holds.shelf h
    simpa [Shelf.carried_eq, timing, Timing.carried, State.acquireOrigin] using carried
  | locked r since => simpa [State.acquireOrigin, Origin.carried] using holds.tracedGrade h
  | holdover o => rfl

theorem State.enterAcquire_keepsGrades (h : ShelfNo) (r : RefNo) (s : State) : KeepsGrades s (s.enterAcquire h r) := by
  unfold State.enterAcquire
  split
  · rename_i t timing
    exact State.moveShelf_keepsGrades h fun holds => holds.acquireOrigin timing
  · exact .refl s

theorem State.markRefused_keepsGrades (h : ShelfNo) (r : RefNo) (s : State) : KeepsGrades s (s.markRefused h r) :=
  State.setShelf_keepsGrades_of_same h rfl rfl

theorem State.dropRequest_keepsGrades (h : ShelfNo) (s : State) : KeepsGrades s (s.dropRequest h) := by
  have dropped := (State.mapCard_keepsGrades_of_carried h (f := fun c => { c with request := .none }) s
    fun _ => rfl).trans (State.leavePassPending_keepsGrades _)
  unfold State.dropRequest
  split
  · exact .refl s
  · exact dropped
  · exact dropped.trans (State.post_keepsGrades _ _)

@[simp] theorem Timing.carried_age (t : Timing) : t.age.carried = t.carried := by
  rcases t with _ | ⟨_, _ | _ | _, _⟩ | _ | _ <;> rfl

theorem State.ageHoldover_keepsGrades (h : ShelfNo) (s : State) : KeepsGrades s (s.ageHoldover h) :=
  ((State.mapCard_keepsGrades_of_carried h s fun c => c.timing.carried_age).trans
    (State.leavePassPending_keepsGrades _)).trans (State.post_keepsGrades _ _)

/-! ## Moving a reference -/

theorem State.setAvailability_keepsGrades (r : RefNo) (a : Availability) (fail : Option Nat)
    (restore : Option SecondTimer) (s : State) : KeepsGrades s (s.setAvailability r a fail restore) :=
  (State.setRun_keepsGrades r id).trans (State.leavePassPending_keepsGrades _)

theorem State.becomeAvailable_keepsGrades (r : RefNo) (d : AvailableDetail) (s : State) :
    KeepsGrades s (s.becomeAvailable r d) :=
  (s.setAvailability_keepsGrades r _ _ _).trans (State.post_keepsGrades _ _)

theorem KeepsGrades.foldl {α : Type} {f : State → α → State} (step : ∀ s a, KeepsGrades s (f s a)) (l : List α)
    (s : State) : KeepsGrades s (l.foldl f s) := by
  induction l generalizing s with
  | nil => exact .refl s
  | cons a rest ih => exact (step s a).trans (ih _)

theorem State.enterFailed_keepsGrades (r : RefNo) (d : FailDetail) (s : State) : KeepsGrades s (s.enterFailed r d) :=
  ((s.setAvailability_keepsGrades r _ _ _).trans (State.post_keepsGrades _ _)).trans
    (KeepsGrades.foldl (fun t h => t.takeOff_keepsGrades h r) allShelves _)

theorem DefectMove.keepsGrades {r : RefNo} {b a : Bool} {s t : State} (move : DefectMove r b a s t) :
    KeepsGrades s t := by
  cases move with
  | stays _ _ => exact .refl s
  | fails d _ _ => exact s.enterFailed_keepsGrades r d
  | moves x fail restore rep start _ _ _ =>
    rcases start with rfl | rfl
    · exact (State.setAvailability_keepsGrades r x fail restore _).trans (State.post_keepsGrades rep _)
    · exact ((State.setRun_keepsGrades r id).trans (State.setAvailability_keepsGrades r x fail restore _)).trans
        (State.post_keepsGrades rep _)

theorem State.takeDefect_keepsGrades (before : State) (r : RefNo) (s : State) :
    KeepsGrades s (before.takeDefect r s) := (before.takeDefect_move r s).keepsGrades

theorem State.setCardDefect_keepsGrades (r : RefNo) (d : Bool) (s : State) : KeepsGrades s (s.setCardDefect r d) :=
  (State.setRun_keepsGrades r id).trans (s.takeDefect_keepsGrades r _)

theorem State.setChanTaking_keepsGrades (r : RefNo) (x : Channel) (s : State) : KeepsGrades s (s.setChanTaking r x) :=
  (s.setChan_keepsGrades r x).trans (s.takeDefect_keepsGrades r _)

theorem State.takeEdge_keepsGrades (r : RefNo) (s : State) : KeepsGrades s (s.takeEdge r) := by
  have posted (q p : FreqState) (u : State) : KeepsGrades u (u.postFreq r q p) := by
    unfold State.postFreq
    split
    · exact .refl u
    · exact u.post_keepsGrades _
  rw [State.takeEdge_eq]
  exact ((s.setChan_keepsGrades r _).trans (posted _ _ _)).trans (s.takeDefect_keepsGrades r _)

end Sys2Proof.Machine

/-!
SUPPORT. Cards, status blocks, words and requests: each keeps the grades held valid.
-/

namespace Sys2Proof.Machine

open Sys2Proof

/-! ## Cards -/

theorem State.reject_keepsGrades (h : ShelfNo) (reason : RejectReason) (s : State) :
    KeepsGrades s (s.reject h reason) := by
  have written : KeepsGrades s (s.setShelf h { s.shelf h with admission := .rejected reason }) :=
    State.setShelf_keepsGrades_of_admission h rfl
  unfold State.reject
  dsimp only
  split
  · exact written.trans (State.post_keepsGrades _ _)
  · exact (written.trans (State.leavePassPending_keepsGrades _)).trans (State.post_keepsGrades _ _)

theorem State.admitCard_keepsGrades (h : ShelfNo) (cls : CardClass) (s : State) :
    KeepsGrades s (s.admitCard h cls) := by
  unfold State.admitCard
  split_ifs
  · exact s.reject_keepsGrades h _
  · exact s.reject_keepsGrades h _
  · exact ((State.setAdmission_keepsGrades h rfl).trans (State.post_keepsGrades _ _)).trans
      (State.post_keepsGrades _ _)

theorem State.restartCard_keepsGrades (h : ShelfNo) (cls : CardClass) (s : State) :
    KeepsGrades s (s.restartCard h cls) := by
  have restarted : KeepsGrades s ((s.mapCard h fun c => { c with cardClass := cls }).post (.cardRestart h cls)) :=
    (State.mapCard_keepsGrades_of_carried h s fun _ => by rfl).trans (State.post_keepsGrades _ _)
  unfold State.restartCard
  split_ifs
  · exact s.reject_keepsGrades h _
  · dsimp only
    split
    · exact restarted
    · exact restarted.trans (State.moveShelf_keepsGrades h fun _ => rfl)

theorem State.vacate_keepsGrades (h : ShelfNo) (rep : Report) (s : State) : KeepsGrades s (s.vacate h rep) :=
  (State.setAdmission_keepsGrades h rfl).trans (State.post_keepsGrades _ _)

theorem State.loseLock_keepsGrades (h : ShelfNo) (r : RefNo) (s : State) : KeepsGrades s (s.loseLock h r) :=
  ((s.markRefused_keepsGrades h r).trans (State.post_keepsGrades _ _)).trans (State.leaveLocked_keepsGrades h _)

theorem State.lock_keepsGrades (h : ShelfNo) (r : RefNo) (s : State) : KeepsGrades s (s.lock h r) :=
  ((State.setTiming_keepsGrades h fun _ => rfl).trans (State.post_keepsGrades _ _)).trans (State.post_keepsGrades _ _)

theorem State.takeTracking_keepsGrades (h : ShelfNo) (x : RefNo) (s : State) : KeepsGrades s (s.takeTracking h x) := by
  unfold State.takeTracking
  split
  · split
    · exact s.lock_keepsGrades h _
    · exact .refl s
  · split
    · exact .refl s
    · exact s.loseLock_keepsGrades h _
  · exact s.post_keepsGrades _
  · exact s.post_keepsGrades _
  · exact .refl s

theorem State.takeFree_keepsGrades (h : ShelfNo) (s : State) : KeepsGrades s (s.takeFree h) := by
  unfold State.takeFree
  split
  · exact s.loseLock_keepsGrades h _
  · exact .refl s

theorem State.takeReport_keepsGrades (h : ShelfNo) (rep : CardReport) (s : State) :
    KeepsGrades s (s.takeReport h rep) := by
  unfold State.takeReport
  rcases (s.shelf h).admission with _ | _ | _ <;> cases rep
  case vacant.announce | rejected.announce => exact s.admitCard_keepsGrades h _
  case joined.announce => exact s.restartCard_keepsGrades h _
  case rejected.withdraw | joined.withdraw => exact s.vacate_keepsGrades h _
  case joined.tracking => exact s.takeTracking_keepsGrades h _
  case joined.free => exact s.takeFree_keepsGrades h
  all_goals exact .refl s

theorem State.renewSilence_keepsGrades (h : ShelfNo) (s : State) : KeepsGrades s (s.renewSilence h) :=
  State.setShelf_keepsGrades_of_same h rfl rfl

theorem State.deliverReport_keepsGrades (h : ShelfNo) (rep : CardReport) (s : State) :
    KeepsGrades s (s.deliverReport h rep) :=
  (s.renewSilence_keepsGrades h).trans (State.regrading_keepsGrades (State.takeReport_keepsGrades h rep _))

theorem State.goSilent_keepsGrades (h : ShelfNo) (s : State) : KeepsGrades s (s.goSilent h) := by
  have silent : KeepsGrades s (s.setShelf h { s.shelf h with silence := none }) :=
    State.setShelf_keepsGrades_of_same h rfl rfl
  unfold State.goSilent
  dsimp only
  split
  · exact silent
  · exact silent.trans (State.vacate_keepsGrades h _ _)
  · exact silent.trans (State.vacate_keepsGrades h _ _)

theorem State.timeOut_keepsGrades (h : ShelfNo) (s : State) : KeepsGrades s (s.timeOut h) := by
  unfold State.timeOut
  split
  · exact (s.markRefused_keepsGrades h _).trans (State.leaveAcquire_keepsGrades h _ _)
  · exact .refl s

theorem State.disarmMark_keepsGrades (h : ShelfNo) (r : RefNo) (s : State) : KeepsGrades s (s.disarmMark h r) :=
  State.setShelf_keepsGrades_of_same h rfl rfl

/-! ## Quality codes and overrides -/

theorem State.takeCode_keepsGrades (r : RefNo) (c : Code) (s : State) : KeepsGrades s (s.takeCode r c) := by
  unfold State.takeCode
  split
  · refine State.setRun_keepsGrades r fun valid => ?_
    obtain ⟨-, -, override⟩ := RefRunning.persist_keeps s.refs.persistence c (s.ref r).run
    rwa [override]
  · exact .refl s

theorem State.deliverStatus_keepsGrades (r : RefNo) (c : Code) (d : Bool) (s : State) :
    KeepsGrades s (s.deliverStatus r c d) :=
  ((State.setRun_keepsGrades r id).trans (State.regrading_keepsGrades (State.setCardDefect_keepsGrades r d _))).trans
    (State.regrading_keepsGrades (State.takeCode_keepsGrades r c _))

theorem State.goStale_keepsGrades (r : RefNo) (s : State) : KeepsGrades s (s.goStale r) :=
  ((State.setRun_keepsGrades r id).trans (State.post_keepsGrades _ _)).trans
    (State.setCardDefect_keepsGrades r false _)

theorem State.clearOverrides_keepsGrades (s : State) : KeepsGrades s s.clearOverrides :=
  .of_records (fun r ⟨fixed, stale, _⟩ => by
    rw [State.ref_clearOverrides]
    exact ⟨fixed, stale, rfl⟩) (by simp only [State.clearOverrides]) (by simp only [State.clearOverrides]) (by simp)

theorem State.changeMode_keepsGrades (m : Mode) (s : State) : KeepsGrades s (s.changeMode m) := by
  have stored (m : Mode) : KeepsGrades s (s.storeMode m) :=
    .of_tables (by simp [State.storeMode]) (by simp [State.storeMode])
  unfold State.changeMode
  split
  · exact .refl s
  · cases m with
    | maintenance => exact stored _
    | normal => exact (stored _).trans (State.regrading_keepsGrades (State.clearOverrides_keepsGrades _))

/-! ## Words of the Quality Highway -/

theorem State.openBlock_keepsGrades (n : SlotNo) (tag : WordValue) (s : State) : KeepsGrades s (s.openBlock n tag) := by
  unfold State.openBlock
  split_ifs
  · exact .of_tables rfl rfl
  · exact .of_tables rfl rfl
  · exact .of_tables (by simp [State.countMisroute]) (by simp [State.countMisroute])

theorem State.judgeBlock_keepsGrades (n : SlotNo) (words : List WordValue) (s : State) :
    KeepsGrades s (s.judgeBlock n words) := by
  unfold State.judgeBlock
  split
  · exact .of_tables (by simp [State.countCheckError]) (by simp [State.countCheckError])
  · split
    · unfold State.deliver
      split
      · exact s.deliverStatus_keepsGrades _ _ _
      · exact s.deliverReport_keepsGrades _ _
    · exact .of_tables (by simp [State.countMisroute]) (by simp [State.countMisroute])

theorem State.feedWord_keepsGrades (n : SlotNo) (w : HighwayWord) (s : State) : KeepsGrades s (s.feedWord n w) := by
  have stored (a : Assembler) : KeepsGrades s (s.setAssembler n a) := .of_tables rfl rfl
  have counted : KeepsGrades s (s.countMarkError n) :=
    .of_tables (by simp [State.countMarkError]) (by simp [State.countMarkError])
  unfold State.feedWord
  split
  · exact .refl s
  · exact s.openBlock_keepsGrades n _
  · split
    · exact (stored .hunt).trans (State.judgeBlock_keepsGrades n _ _)
    · exact stored _
  · exact counted.trans (State.openBlock_keepsGrades n _ _)

/-! ## Requests of the Reference Unit -/

/-- The values of a request that have passed their checks are stored as they are (R5, R10). -/
theorem State.reconfigure_keepsGrades (r : RefNo) {cfg : RefConfig} (s : State)
    (fixed : gradeValid cfg.fixedGrade = true) (stale : gradeValid cfg.staleGrade = true) :
    KeepsGrades s (s.reconfigure r cfg) :=
  .of_records (fun q sound => by
    rw [State.ref_reconfigure]
    split
    · rename_i e
      subst e
      obtain ⟨-, -, override⟩ := sound
      exact ⟨fixed, stale, override⟩
    · exact sound) (by rw [State.reconfigure_eq]) (by rw [State.reconfigure_eq]) (by rw [State.reconfigure_eq])

theorem refConfigOf_grades {body : List Byte} (value : configureReferenceBadValue body = false) :
    gradeValid (refConfigOf body).fixedGrade = true ∧ gradeValid (refConfigOf body).staleGrade = true := by
  simp only [configureReferenceBadValue, Bool.or_eq_false_iff, Bool.not_eq_false'] at value
  obtain ⟨⟨⟨⟨_, fixed⟩, _⟩, stale⟩, _⟩ := value
  exact ⟨fixed, stale⟩

theorem codePlanOf_sound {body : List Byte} (value : loadCodePlanBadValue body = false) : (codePlanOf body).sound := by
  intro c
  simp only [loadCodePlanBadValue, Bool.or_eq_false_iff, List.any_eq_false, List.mem_range,
    Bool.not_eq_true, Bool.not_eq_false'] at value
  obtain ⟨⟨_, grades⟩, _⟩ := value
  simpa [codePlanOf] using grades c.val c.isLt

theorem State.setPlan_keepsGrades (p : PlanName) {x : CodePlan} (s : State) (sound : x.sound) :
    KeepsGrades s (s.setPlan p x) := fun holds => by
  cases p with
  | a => exact { ref := holds.ref, planA := sound, planB := holds.planB, shelf := holds.shelf }
  | b => exact { ref := holds.ref, planA := holds.planA, planB := sound, shelf := holds.shelf }

theorem State.setOverride_keepsGrades (r : RefNo) {g : Option Nat} (s : State) (valid : g.all gradeValid = true) :
    KeepsGrades s (s.setOverride r g) := State.setRun_keepsGrades r fun _ => valid

theorem State.clearRestoring_keepsGrades (r : RefNo) (s : State) : KeepsGrades s (s.clearRestoring r) := by
  unfold State.clearRestoring
  split
  · exact s.becomeAvailable_keepsGrades r _
  · exact .refl s

/-! ## Requests of the Selection Engine -/

theorem State.dropUnoffered_keepsGrades (h : ShelfNo) (s : State) : KeepsGrades s (s.dropUnoffered h) := by
  unfold State.dropUnoffered
  split
  · exact .refl s
  · split
    · exact .refl s
    · exact s.dropRequest_keepsGrades h
  · split
    · exact .refl s
    · exact s.dropRequest_keepsGrades h

@[simp] theorem Timing.carried_rewait (t : Timing) : t.rewait.carried = t.carried := by
  rcases t with _ | ⟨_, _ | _ | _, _⟩ | _ | _ <;> rfl

theorem State.resettleAging_keepsGrades (h : ShelfNo) (before : Nat) (s : State) :
    KeepsGrades s (s.resettleAging h before) := by
  unfold State.resettleAging
  split
  · split_ifs
    · exact .refl s
    · exact s.ageHoldover_keepsGrades h
    · exact State.mapCard_keepsGrades_of_carried h s fun c => c.timing.carried_rewait
  · exact .refl s

theorem State.settleShelf_keepsGrades (h : ShelfNo) (s : State) : KeepsGrades s (s.settleShelf h) := by
  unfold State.settleShelf
  split
  · split_ifs
    · exact s.reject_keepsGrades h _
    · exact s.reject_keepsGrades h _
    · split
      · split
        · exact .refl s
        · exact s.leaveLocked_keepsGrades h
      · exact .refl s
  · exact .refl s

/-- The grades of a configuration are clamped to 1 to 12 (R72, R74). -/
theorem shelfConfigOf_grades (body : List Byte) :
    (shelfConfigOf body).minimumGrade ∈ List.range' 1 12 ∧ (shelfConfigOf body).holdoverGrade ∈ List.range' 1 12
      ∧ (shelfConfigOf body).freeRunGrade ∈ List.range' 1 12 := by
  have clamped (n : Nat) : clampNat 1 12 n ∈ List.range' 1 12 := by
    obtain ⟨least, most⟩ := clampNat_mem 1 12 n (by decide)
    rw [List.mem_range'_1]
    omega
  exact ⟨clamped _, clamped _, clamped _⟩

theorem State.reconfigureShelf_keepsGrades (h : ShelfNo) (body : List Byte) (list : List Candidate) (s : State) :
    KeepsGrades s (s.reconfigureShelf h (shelfConfigOf body) list) := by
  have stored : KeepsGrades s (s.setShelf h { s.shelf h with cfg := shelfConfigOf body, candidates := list }) :=
    State.setShelf_keepsGrades h fun holds => by
      obtain ⟨minimum, holdover, freeRun⟩ := shelfConfigOf_grades body
      obtain ⟨-, -, -, carried⟩ := holds.shelf h
      exact ⟨minimum, holdover, freeRun, carried⟩
  exact (((stored.trans (State.dropUnoffered_keepsGrades h _)).trans (State.resettleAging_keepsGrades h _ _)).trans
    (State.settleShelf_keepsGrades h _)).trans (State.leavePassPending_keepsGrades _)

theorem State.setRequest_keepsGrades (h : ShelfNo) (x : SwitchRequest) (s : State) :
    KeepsGrades s (s.setRequest h x) :=
  (State.mapCard_keepsGrades_of_carried h s fun _ => by rfl).trans (State.leavePassPending_keepsGrades _)

theorem State.setLockout_keepsGrades (h : ShelfNo) (r : RefNo) (on : Bool) (s : State) :
    KeepsGrades s (s.setLockout h r on) :=
  (State.setShelf_keepsGrades_of_same h (by rfl) (by rfl)).trans (State.leavePassPending_keepsGrades _)

theorem State.dropTarget_keepsGrades (h : ShelfNo) (r : RefNo) (s : State) : KeepsGrades s (s.dropTarget h r) := by
  unfold State.dropTarget
  split
  · exact .refl s
  · split
    · exact s.dropRequest_keepsGrades h
    · exact .refl s
  · split
    · exact s.dropRequest_keepsGrades h
    · exact .refl s

theorem State.lockOut_keepsGrades (h : ShelfNo) (r : RefNo) (was on : Bool) (s : State) :
    KeepsGrades s (s.lockOut h r was on) := by
  unfold State.lockOut
  split_ifs
  · exact .refl s
  · exact ((s.setLockout_keepsGrades h r true).trans (State.dropTarget_keepsGrades h r _)).trans
      (State.takeOff_keepsGrades h r _)
  · exact s.setLockout_keepsGrades h r false

theorem State.shelf_setHolds (named : ShelfNo → Bool) (on : Bool) (s : State) (h : ShelfNo) :
    (s.setHolds named on).shelf h = if named h then { s.shelf h with hold := on } else s.shelf h := by
  simp only [State.setHolds, State.shelf, Fin.getElem_fin, Vector.getElem_ofFn, Fin.eta]

theorem State.setHolds_keepsGrades (named : ShelfNo → Bool) (on : Bool) (s : State) :
    KeepsGrades s (s.setHolds named on) := by
  rintro ⟨ref, planA, planB, shelf⟩
  refine ⟨fun r => ?_, ?_, ?_, fun h => ?_⟩
  · rw [State.ref_congr (s.setHolds_refs named on)]
    exact ref r
  · rw [State.setHolds_refs]
    exact planA
  · rw [State.setHolds_refs]
    exact planB
  · rw [State.shelf_setHolds]
    split
    · exact shelf h
    · exact shelf h

/-! ## Passes -/

theorem State.applyChoice_keepsGrades (h : ShelfNo) (choice : Option RefNo) (s : State) :
    KeepsGrades s (s.applyChoice h choice) := by
  unfold State.applyChoice
  split
  · exact s.enterAcquire_keepsGrades h _
  · exact s.enterAcquire_keepsGrades h _
  · split
    · exact .refl s
    · exact s.enterAcquire_keepsGrades h _
  · exact s.leaveLocked_keepsGrades h
  · exact .refl s

theorem State.dropIneligible_keepsGrades (h : ShelfNo) (s : State) : KeepsGrades s (s.dropIneligible h) := by
  unfold State.dropIneligible
  split
  · split
    · exact .refl s
    · exact s.dropRequest_keepsGrades h
  · exact .refl s

theorem State.visit_keepsGrades (h : ShelfNo) (s : State) : KeepsGrades s (s.visit h) := by
  unfold State.visit
  split_ifs
  · exact State.mapCard_keepsGrades_of_carried h s fun _ => rfl
  · exact ((s.dropIneligible_keepsGrades h).trans (State.mapCard_keepsGrades_of_carried h _ fun _ => by rfl)).trans
      (State.applyChoice_keepsGrades h _ _)
  · exact .refl s

theorem State.endPass_keepsGrades (s : State) : KeepsGrades s s.endPass := by
  unfold State.endPass
  split_ifs
  · exact .of_tables rfl rfl
  · exact .of_tables rfl rfl
  · exact .of_tables (by simp) (by simp)

/-! ## Second events and resets -/

@[simp] theorem Timing.carried_reach (c : ShelfConfig) (now : Nat) (t : Timing) :
    (t.reach c now).carried = t.carried := by
  rcases t with _ | ⟨_, _ | _ | _, _⟩ | _ | _ <;> rfl

theorem Shelf.gradesSound.reach {x : Shelf} (sound : x.gradesSound) (now : Nat) : (x.reach now).gradesSound := by
  obtain ⟨minimum, holdover, freeRun, carried⟩ := sound
  refine ⟨minimum, holdover, freeRun, ?_⟩
  rw [Shelf.carried_eq, Shelf.timing, Shelf.card] at carried ⊢
  unfold Shelf.reach Admission.reach
  rcases admission : x.admission with _ | _ | c
  · rfl
  · rfl
  · simpa [admission] using carried

/-- A second event reaches timers and agings, and no grade is written (R24, R90). -/
theorem State.secondStep_keepsGrades (s : State) : KeepsGrades s s.secondStep := fun holds =>
  { ref := fun r => by rw [State.ref_secondStep]; exact holds.ref r
    planA := holds.planA
    planB := holds.planB
    shelf := fun h => by rw [State.shelf_secondStep]; exact (holds.shelf h).reach _ }

/-- The values after reset are valid, whatever stood before (R2, R60, R72). -/
theorem KeepsGrades.of_reset {s t : State} (refs : t.refs = State.reset.refs)
    (shelves : t.engine.shelves = State.reset.engine.shelves) : KeepsGrades s t := fun _ =>
  KeepsGrades.of_tables refs shelves ((State.holdsGrades_iff _).2 State.gradesSound_reset)

theorem State.resetBy_keepsGrades (c : ResetCause) (s : State) : KeepsGrades s (s.resetBy c) := .of_reset rfl rfl

theorem State.endReply_keepsGrades (s : State) : KeepsGrades s s.endReply := by
  unfold State.endReply
  split
  · split
    · exact s.resetBy_keepsGrades .request
    · exact .of_tables rfl rfl
  · exact .refl s

end Sys2Proof.Machine

/-!
SUPPORT. The commands and the step keep the grades held valid, and with them the grades derived.
-/

namespace Sys2Proof.Machine

open Sys2Proof

/-! ## Requests -/

/-- A request is taken: its owning block keeps the grades held, and the transmit state holds none. -/
theorem takeRequest_keepsGrades {named : Nat → Bool} {serve : List Byte → State → Answer} {s : State}
    (hs : ∀ body, KeepsGrades s (serve body s).state) : AnswersOnly (KeepsGrades s) (takeRequest named serve s) :=
  takeRequest_answersOnly (fun _ _ kept => kept.trans (.of_tables rfl rfl)) (.refl s) hs

/-- A request that is answered from the state as it is. -/
theorem takeRequest_of_state_keepsGrades {named : Nat → Bool} {serve : List Byte → State → Answer} {s : State}
    (hs : ∀ body, (serve body s).state = s) : AnswersOnly (KeepsGrades s) (takeRequest named serve s) :=
  takeRequest_keepsGrades fun body => (hs body).symm ▸ .refl s

theorem serveConfigureReference_keepsGrades (body : List Byte) (s : State) :
    KeepsGrades s (serveConfigureReference body s).state := by
  rcases serveConfigureReference_cases body s with e | ⟨r, -, -, value, e⟩ <;> rw [e]
  · exact .refl s
  · obtain ⟨fixed, stale⟩ := refConfigOf_grades value
    exact State.regrading_keepsGrades (s.reconfigure_keepsGrades r fixed stale)

theorem serveClearRestore_keepsGrades (body : List Byte) (s : State) :
    KeepsGrades s (serveClearRestore body s).state := by
  rcases serveClearRestore_cases body s with e | ⟨r, e⟩ <;> rw [e]
  · exact .refl s
  · exact s.clearRestoring_keepsGrades r

theorem serveSetOscillatorTrim_keepsGrades (body : List Byte) (s : State) :
    KeepsGrades s (serveSetOscillatorTrim body s).state := by
  rcases serveSetOscillatorTrim_cases body s with e | ⟨x, e⟩ <;> rw [e]
  · exact .refl s
  · exact .of_tables rfl rfl

theorem serveLoadCodePlan_keepsGrades (body : List Byte) (s : State) :
    KeepsGrades s (serveLoadCodePlan body s).state := by
  rcases serveLoadCodePlan_cases body s with e | ⟨p, value, e⟩ <;> rw [e]
  · exact .refl s
  · exact State.regrading_keepsGrades (s.setPlan_keepsGrades p (codePlanOf_sound value))

theorem serveSetGradeOverride_keepsGrades (body : List Byte) (s : State) :
    KeepsGrades s (serveSetGradeOverride body s).state := by
  rcases serveSetGradeOverride_cases body s with e | ⟨r, g, -, valid, e⟩ <;> rw [e]
  · exact .refl s
  · exact State.regrading_keepsGrades (s.setOverride_keepsGrades r valid)

theorem serveConfigureShelf_keepsGrades (body : List Byte) (s : State) :
    KeepsGrades s (serveConfigureShelf body s).state := by
  rcases serveConfigureShelf_cases body s with e | ⟨h, -, -, -, e⟩ <;> rw [e]
  · exact .refl s
  · exact State.regrading_keepsGrades (s.reconfigureShelf_keepsGrades h body _)

theorem serveSetSelectionLimits_keepsGrades (body : List Byte) (s : State) :
    KeepsGrades s (serveSetSelectionLimits body s).state := by
  rcases serveSetSelectionLimits_cases body s with e | ⟨_, _, _, -, e⟩ <;> rw [e]
  · exact .refl s
  · exact .of_records (fun _ sound => sound) rfl rfl rfl

theorem serveSwitch_keepsGrades (body : List Byte) (s : State) : KeepsGrades s (serveSwitch body s).state := by
  rcases serveSwitch_cases body s with e | ⟨h, -, e⟩ | ⟨h, force, r, -, -, e⟩ <;> rw [e]
  · exact .refl s
  · exact s.setRequest_keepsGrades h _
  · exact s.setRequest_keepsGrades h _

theorem serveLockout_keepsGrades (body : List Byte) (s : State) : KeepsGrades s (serveLockout body s).state := by
  rcases serveLockout_cases body s with e | ⟨h, r, entry, on, -, e⟩ <;> rw [e]
  · exact .refl s
  · exact State.regrading_keepsGrades (s.lockOut_keepsGrades h r _ on)

theorem serveHold_keepsGrades (body : List Byte) (s : State) : KeepsGrades s (serveHold body s).state := by
  rcases serveHold_cases body s with e | ⟨named, on, e⟩ <;> rw [e]
  · exact .refl s
  · exact s.setHolds_keepsGrades named on

theorem serveSetHighway_keepsGrades (body : List Byte) (s : State) : KeepsGrades s (serveSetHighway body s).state := by
  rcases serveSetHighway_cases body s with e | ⟨mode, enable, e⟩ <;> rw [e]
  · exact .refl s
  · exact .of_tables rfl rfl

theorem serveReadHighway_keepsGrades (body : List Byte) (s : State) :
    KeepsGrades s (serveReadHighway body s).state := by
  rcases serveReadHighway_cases body s with e | e <;> rw [e]
  · exact .refl s
  · exact .of_tables rfl rfl

theorem serveInjectBlock_keepsGrades (body : List Byte) (s : State) :
    KeepsGrades s (serveInjectBlock body s).state := by
  rcases serveInjectBlock_cases body s with e | ⟨n, words, -, e⟩ <;> rw [e]
  · exact .refl s
  · exact State.feedWords_induction n (fun w u kept => kept.trans (u.feedWord_keepsGrades n w)) words s (.refl s)

theorem serveSetReporting_keepsGrades (body : List Byte) (s : State) :
    KeepsGrades s (serveSetReporting body s).state := by
  rcases serveSetReporting_cases body s with e | ⟨_, _, e⟩ <;> rw [e]
  · exact .refl s
  · exact .of_tables rfl rfl

theorem serveCollect_keepsGrades (body : List Byte) (s : State) : KeepsGrades s (serveCollect body s).state := by
  rcases serveCollect_cases body s with e | ⟨_, e⟩ <;> rw [e]
  · exact .refl s
  · exact .of_tables rfl rfl

theorem serveEndService_keepsGrades (body : List Byte) (s : State) : KeepsGrades s (serveEndService body s).state := by
  rcases serveEndService_cases body s with e | ⟨-, e⟩ <;> rw [e]
  · exact .refl s
  · exact .of_tables rfl rfl

theorem serveSetMode_keepsGrades (body : List Byte) (s : State) : KeepsGrades s (serveSetMode body s).state := by
  rcases serveSetMode_cases body s with e | ⟨m, e⟩ <;> rw [e]
  · exact .refl s
  · exact s.changeMode_keepsGrades m

/-! ## Bytes and pulses -/

theorem State.frameComplete_keepsGrades (a : Assembly) (first second : Byte) (s : State) :
    KeepsGrades s (s.frameComplete a first second) := by
  unfold State.frameComplete State.bufferFrame
  split_ifs
  · exact .of_tables rfl rfl
  · exact .of_tables (by simp) (by simp)
  · exact .of_tables (by simp) (by simp)

theorem execByteReceived_keepsGrades (value : Byte) (stopHigh : Bool) (s : State) :
    AnswersOnly (KeepsGrades s) (execByteReceived value stopHigh s) := by
  refine event_answersOnly (.refl s) ?_
  split
  · unfold State.takeByte
    split
    · split
      · exact .of_tables rfl rfl
      · exact .refl s
    · split
      · exact .of_tables rfl rfl
      · exact .of_tables rfl rfl
    · exact .of_tables rfl rfl
    · exact .of_tables rfl rfl
    · exact s.frameComplete_keepsGrades _ _ _
  · unfold State.takeFaultyByte
    split
    · exact .refl s
    · exact .of_tables (by simp) (by simp)

theorem State.countMiss_keepsGrades (f : Framing) (s : State) : KeepsGrades s (s.countMiss f) := by
  unfold State.countMiss
  split
  · exact .of_tables (by simp [State.loseHighway]) (by simp [State.loseHighway])
  · exact .of_tables rfl rfl

theorem execQhFrameStart_keepsGrades (pulse : Bool) (s : State) :
    AnswersOnly (KeepsGrades s) (execQhFrameStart pulse s) := by
  refine event_answersOnly (.refl s) ?_
  split
  · unfold State.startFrame
    split_ifs
    · exact .of_tables rfl rfl
    · exact .of_tables rfl rfl
    · exact s.countMiss_keepsGrades _
    · exact .refl s
  · exact .refl s

theorem execQhSync_keepsGrades (s : State) : AnswersOnly (KeepsGrades s) (execQhSync s) := by
  refine event_answersOnly (.refl s) ?_
  split
  · split
    · exact .refl s
    · exact .of_tables (by simp [State.realign]) (by simp [State.realign])
  · exact .refl s

theorem execQhRecovered_keepsGrades (s : State) : AnswersOnly (KeepsGrades s) (execQhRecovered s) := by
  refine event_answersOnly (.refl s) ?_
  split
  · exact .refl s
  · exact .of_tables (by simp [State.recoverHighway]) (by simp [State.recoverHighway])

theorem execWordReceived_keepsGrades (slot : Nat) (bits : Byte) (s : State) :
    AnswersOnly (KeepsGrades s) (execWordReceived slot bits s) := by
  refine onSlot_answersOnly fun n => event_answersOnly (.refl s) ?_
  split
  · rename_i f _
    have passed : KeepsGrades s (s.passWord n f) := .of_tables rfl rfl
    split
    · exact passed.trans (State.feedWord_keepsGrades n _ _)
    · exact .refl s
  · exact .refl s

/-! ## Events of one reference, one shelf or one slot -/

theorem execEdge_keepsGrades (r : Nat) (s : State) : AnswersOnly (KeepsGrades s) (execEdge r s) := by
  refine onRef_answersOnly fun r => eventIf_answersOnly (.refl s) fun _ => ?_
  have sampled : KeepsGrades s (s.samplePin r) := s.setChan_keepsGrades r _
  split
  · exact sampled
  · exact sampled.trans (State.regrading_keepsGrades (State.takeEdge_keepsGrades r _))

theorem execRefusalMarkRunOut_keepsGrades (h r : Nat) (s : State) :
    AnswersOnly (KeepsGrades s) (execRefusalMarkRunOut h r s) :=
  onShelf_answersOnly fun h => onRef_answersOnly fun r => eventIf_answersOnly (.refl s) fun _ =>
    (s.disarmMark_keepsGrades h r).trans (State.leavePassPending_keepsGrades _)

theorem execPassVisit_keepsGrades (s : State) : AnswersOnly (KeepsGrades s) (execPassVisit s) := by
  have advanced : KeepsGrades s { s with engine := s.engine.advance } := .of_tables rfl rfl
  refine event_answersOnly (.refl s) ?_
  split
  · exact advanced.trans (State.regrading_keepsGrades (State.visit_keepsGrades _ _))
  · exact .refl s

theorem execCommandBlockStart_keepsGrades (slot : Nat) (s : State) :
    AnswersOnly (KeepsGrades s) (execCommandBlockStart slot s) := by
  unfold execCommandBlockStart
  split
  · exact eventIf_answersOnly (.refl s) fun _ => .of_tables rfl rfl
  · exact answersOnly_fault _ _

theorem execQualityBlockStart_keepsGrades (slot : Nat) (s : State) :
    AnswersOnly (KeepsGrades s) (execQualityBlockStart slot s) := by
  have started (j : Fin 16) : KeepsGrades s (s.startQuality j) := by
    unfold State.startQuality
    split
    · exact .of_tables rfl rfl
    · exact .of_tables rfl rfl
  unfold execQualityBlockStart
  split
  · exact eventIf_answersOnly (.refl s) fun _ => started _
  · exact answersOnly_fault _ _

theorem State.loseSignal_keepsGrades (r : RefNo) (s : State) : KeepsGrades s (s.loseSignal r) :=
  State.regrading_keepsGrades (s.setChanTaking_keepsGrades r _)

theorem eventIf_keepsGrades {d : Bool} {s : State} {f : State → State} (kept : KeepsGrades s (f s)) :
    AnswersOnly (KeepsGrades s) (eventIf d s f) := eventIf_answersOnly (.refl s) fun _ => kept

/-- A counted event that hands on the grades it changes. -/
theorem eventIf_regrading_keepsGrades {d : Bool} {s : State} {f : State → State} (kept : KeepsGrades s (f s)) :
    AnswersOnly (KeepsGrades s) (eventIf d s (State.regrading f)) :=
  eventIf_keepsGrades (State.regrading_keepsGrades kept)

theorem execTickEvent_keepsGrades (s : State) : AnswersOnly (KeepsGrades s) (execTickEvent s) :=
  eventIf_keepsGrades (.of_tables rfl rfl)

theorem execPassStart_keepsGrades (s : State) : AnswersOnly (KeepsGrades s) (execPassStart s) :=
  eventIf_keepsGrades (.of_tables rfl rfl)

theorem execDhFrameStart_keepsGrades (s : State) : AnswersOnly (KeepsGrades s) (execDhFrameStart s) :=
  eventIf_keepsGrades (.of_tables rfl rfl)

/-! ## The step -/

/-- Every command keeps the grades held. -/
theorem exec_keepsGrades (c : Instr) (s : State) : AnswersOnly (KeepsGrades s) (exec c s) := by
  cases c with
  | configureReference => exact takeRequest_keepsGrades (named := (· == 1)) (serveConfigureReference_keepsGrades · s)
  | readReference => exact takeRequest_of_state_keepsGrades (named := (· == 2)) (serveReadReference_state · s)
  | clearRestore => exact takeRequest_keepsGrades (named := (· == 3)) (serveClearRestore_keepsGrades · s)
  | setOscillatorTrim => exact takeRequest_keepsGrades (named := (· == 4)) (serveSetOscillatorTrim_keepsGrades · s)
  | loadCodePlan => exact takeRequest_keepsGrades (named := (· == 5)) (serveLoadCodePlan_keepsGrades · s)
  | readCodePlan => exact takeRequest_of_state_keepsGrades (named := (· == 6)) (serveReadCodePlan_state · s)
  | setGradeOverride => exact takeRequest_keepsGrades (named := (· == 7)) (serveSetGradeOverride_keepsGrades · s)
  | configureShelf => exact takeRequest_keepsGrades (named := (· == 8)) (serveConfigureShelf_keepsGrades · s)
  | readShelf => exact takeRequest_of_state_keepsGrades (named := (· == 9)) (serveReadShelf_state · s)
  | setSelectionLimits => exact takeRequest_keepsGrades (named := (· == 10)) (serveSetSelectionLimits_keepsGrades · s)
  | switch => exact takeRequest_keepsGrades (named := (· == 11)) (serveSwitch_keepsGrades · s)
  | lockout => exact takeRequest_keepsGrades (named := (· == 12)) (serveLockout_keepsGrades · s)
  | hold => exact takeRequest_keepsGrades (named := (· == 13)) (serveHold_keepsGrades · s)
  | setHighway => exact takeRequest_keepsGrades (named := (· == 14)) (serveSetHighway_keepsGrades · s)
  | readHighway => exact takeRequest_keepsGrades (named := (· == 15)) (serveReadHighway_keepsGrades · s)
  | injectBlock => exact takeRequest_keepsGrades (named := (· == 16)) (serveInjectBlock_keepsGrades · s)
  | setReporting => exact takeRequest_keepsGrades (named := (· == 17)) (serveSetReporting_keepsGrades · s)
  | collect => exact takeRequest_keepsGrades (named := (· == 18)) (serveCollect_keepsGrades · s)
  | endService => exact takeRequest_keepsGrades (named := (· == 19)) (serveEndService_keepsGrades · s)
  | setMode => exact takeRequest_keepsGrades (named := (· == 20)) (serveSetMode_keepsGrades · s)
  | readStatus => exact takeRequest_of_state_keepsGrades (named := (· == 21)) (serveReadStatus_state · s)
  | reset => exact takeRequest_of_state_keepsGrades (named := (· == 22)) (serveReset_state · s)
  | unknownRequestType =>
    exact takeRequest_of_state_keepsGrades (named := fun n => !knownType n) (serve := serveUnknownType)
      fun _ => refuse_state s .badType []
  | replyEnd => exact eventIf_keepsGrades s.endReply_keepsGrades
  | resetPin => exact answersOnly_next (s.resetBy_keepsGrades .pin)
  | byteReceived value stopHigh => exact execByteReceived_keepsGrades value stopHigh s
  | byteWatchExpiry => exact eventIf_keepsGrades (.of_tables rfl rfl)
  | tickEvent => exact execTickEvent_keepsGrades s
  | secondEvent => exact eventIf_keepsGrades s.secondStep_keepsGrades
  | edge r => exact execEdge_keepsGrades r s
  | signalLost r => exact onRef_answersOnly fun r => eventIf_keepsGrades (s.loseSignal_keepsGrades r)
  | failTimerExpiry r =>
    exact onRef_answersOnly fun r => eventIf_regrading_keepsGrades (s.enterFailed_keepsGrades r _)
  | restoreTimerExpiry r =>
    exact onRef_answersOnly fun r => eventIf_keepsGrades (s.becomeAvailable_keepsGrades r _)
  | qhFrameStart pulse => exact execQhFrameStart_keepsGrades pulse s
  | frameWatchRunOut => exact eventIf_keepsGrades (s.countMiss_keepsGrades _)
  | qhSync => exact execQhSync_keepsGrades s
  | qhRecovered => exact execQhRecovered_keepsGrades s
  | wordReceived slot bits => exact execWordReceived_keepsGrades slot bits s
  | messageAgeExpiry r => exact onRef_answersOnly fun r => eventIf_regrading_keepsGrades (s.goStale_keepsGrades r)
  | cardSilenceExpiry h => exact onShelf_answersOnly fun h => eventIf_regrading_keepsGrades (s.goSilent_keepsGrades h)
  | acquireExpiry h => exact onShelf_answersOnly fun h => eventIf_regrading_keepsGrades (s.timeOut_keepsGrades h)
  | holdoverAging h => exact onShelf_answersOnly fun h => eventIf_regrading_keepsGrades (s.ageHoldover_keepsGrades h)
  | refusalMarkRunOut h r => exact execRefusalMarkRunOut_keepsGrades h r s
  | passStart => exact execPassStart_keepsGrades s
  | passVisit => exact execPassVisit_keepsGrades s
  | passEnd => exact eventIf_keepsGrades s.endPass_keepsGrades
  | dhFrameStart => exact execDhFrameStart_keepsGrades s
  | commandBlockStart slot => exact execCommandBlockStart_keepsGrades slot s
  | qualityBlockStart slot => exact execQualityBlockStart_keepsGrades slot s
  | resetPinAsserted => exact answersOnly_next (.of_reset rfl rfl)

theorem step_keepsGrades (s : State) : AnswersOnly (KeepsGrades s) (step s) := by
  unfold step
  split
  · rename_i c rest _
    have dequeued : KeepsGrades s { s with pending := rest } := .of_tables rfl rfl
    exact fun t taken => dequeued.trans (exec_keepsGrades c _ t taken)
  · exact answersOnly_next (.of_tables s.idle_refs (by rw [s.idle_engine]))

/-- Settles O57: each command keeps the grades held, and the grades derived are valid where those held are. -/
theorem everyStepKeepsTheGrades : Obligations.EveryStepKeepsTheGrades := fun s t taken sound =>
  t.holdsGrades_iff.1 (step_keepsGrades s t taken (s.holdsGrades_iff.2 sound))

end Sys2Proof.Machine

/-!
SUPPORT. The persistence filter, READ CODE PLAN, and the grades and roots that follow a chain of FEEDs.
-/

namespace Sys2Proof.Machine

open Sys2Proof

/-! ## The persistence filter -/

theorem RefRunning.persist_of_adopted {x : RefRunning} {c : Code} (adopted : x.adopted = some c) (n : Nat) :
    x.persist n c = { x with candidate := none, candidateCount := 0 } := if_pos adopted

theorem RefRunning.persist_of_repeated {x : RefRunning} {c : Code} (other : x.adopted ≠ some c)
    (repeated : x.candidate = some c) (n : Nat) :
    x.persist n c =
      if n ≤ x.candidateCount + 1 then { x with adopted := some c, candidate := none, candidateCount := 0 }
      else { x with candidateCount := x.candidateCount + 1 } := by
  rw [RefRunning.persist, if_neg other, if_pos repeated]

theorem RefRunning.persist_of_fresh {x : RefRunning} {c : Code} (other : x.adopted ≠ some c)
    (fresh : x.candidate ≠ some c) (n : Nat) :
    x.persist n c = if n = 1 then { x with adopted := some c, candidate := none, candidateCount := 0 }
      else { x with candidate := some c, candidateCount := 1 } := by
  rw [RefRunning.persist, if_neg other, if_neg fresh]

/-- Settles O14, by whether the code is the adopted one, the candidate, or another. -/
theorem persistenceFilter : Obligations.PersistenceFilter := by
  intro n c x _
  refine ⟨fun adopted => RefRunning.persist_of_adopted adopted n, fun other repeated full => ?_,
    fun other repeated counting => ?_, fun other fresh once => ?_, fun other fresh several => ?_⟩
  · rw [RefRunning.persist_of_repeated other repeated, if_pos full]
  · rw [RefRunning.persist_of_repeated other repeated, if_neg (Nat.not_le_of_lt counting)]
  · rw [RefRunning.persist_of_fresh other fresh, if_pos once]
  · rw [RefRunning.persist_of_fresh other fresh, if_neg (by omega)]

/-! ## READ CODE PLAN -/

/-- The entries of a list in order, put as bytes one after another. -/
theorem flatMap_put8_eq {α : Type} (code : α → Nat) (l : List α) (d : α) :
    l.flatMap (fun x => put8 (code x)) = (List.range l.length).map fun i => BitVec.ofNat 8 (code (l.getD i d)) := by
  have bytes : l.flatMap (fun x => put8 (code x)) = l.map fun x => BitVec.ofNat 8 (code x) :=
    List.map_eq_flatMap.symm
  rw [bytes]
  refine List.ext_getElem (by simp) fun i inside _ => ?_
  rw [List.length_map] at inside
  simp [inside]

theorem CodePlan.put_eq (p : CodePlan) :
    p.put = ((List.range 16).map fun i => BitVec.ofNat 8 (p.receive.toList.getD i 0))
      ++ (List.range 13).map fun i => BitVec.ofNat 8 (p.send.toList.getD i 0).val := by
  have receive := flatMap_put8_eq (fun g : Nat => g) p.receive.toList 0
  have send := flatMap_put8_eq (fun c : Code => c.val) p.send.toList 0
  rw [Vector.length_toList] at receive send
  rw [CodePlan.put, ← receive, ← send]

theorem PlanName.ofCode_of_outside {n : Nat} (h : 1 < n) : PlanName.ofCode n = none := by
  match n with
  | _ + 2 => rfl

theorem serveReadCodePlan_of_plan {n : Nat} (h : n ≤ 1) (s : State) :
    serveReadCodePlan (put8 n) s = accept s false (s.plan (if n = 0 then .a else .b)).put := by
  simp only [serveReadCodePlan, length_put8, ne_eq, not_true_eq_false, if_false, byteAt_put8 (h.trans (by decide)),
    PlanName.ofCode_of_le h]

theorem serveReadCodePlan_of_outside {n : Nat} (least : 1 < n) (most : n ≤ 255) (s : State) :
    serveReadCodePlan (put8 n) s = refuse s .badValue [] := by
  simp only [serveReadCodePlan, length_put8, ne_eq, not_true_eq_false, if_false, byteAt_put8 most,
    PlanName.ofCode_of_outside least]

theorem execReadCodePlan_of_asks {s : State} {f : Frame} (asks : s.asks 6 f) :
    exec .readCodePlan s = .next (State.sendReply f (serveReadCodePlan f.body s)) := by
  rw [exec, execReadCodePlan, takeRequest_of_asks _ _ s 6 f asks rfl]

/-- Settles O39, by the plan named. -/
theorem readCodePlan : Obligations.ReadCodePlan := by
  intro s f asks
  rw [execReadCodePlan_of_asks asks]
  refine ⟨fun body => ?_, fun body => ?_, fun n least most body => ?_⟩
  · rw [body, serveReadCodePlan_of_plan (Nat.zero_le 1), CodePlan.put_eq]
    rfl
  · rw [body, serveReadCodePlan_of_plan (Nat.le_refl 1), CodePlan.put_eq]
    rfl
  · rw [body, serveReadCodePlan_of_outside least most, State.sendReply_refuse]

/-! ## The effective grade of a reference -/

theorem State.effectiveGrade_of_local {s : State} {r : RefNo} (other : (s.ref r).cfg.kind ≠ .feed) :
    s.effectiveGrade r = s.localGrade r := if_neg other

theorem State.effectiveGrade_of_feed {s : State} {r : RefNo} {h : ShelfNo} (feed : (s.ref r).cfg.kind = .feed)
    (home : (s.ref r).cfg.homeShelf = some h) : s.effectiveGrade r = s.tracedGrade h := by
  rw [State.effectiveGrade, if_pos feed, home]

theorem State.localGrade_of_override {s : State} {r : RefNo} {g : Nat} (given : (s.ref r).run.override = some g) :
    s.localGrade r = g := by
  rw [State.localGrade, given]

theorem State.localGrade_of_other_source {s : State} {r : RefNo} (free : (s.ref r).run.override = none)
    (source : (s.ref r).cfg.gradeSource ≠ .message) : s.localGrade r = (s.ref r).cfg.fixedGrade := by
  rw [State.localGrade, free]
  dsimp only
  split
  · contradiction
  · rfl

theorem State.localGrade_of_stale {s : State} {r : RefNo} (free : (s.ref r).run.override = none)
    (source : (s.ref r).cfg.gradeSource = .message) (stale : (s.ref r).run.adopted = none) :
    s.localGrade r = (s.ref r).cfg.staleGrade := by
  rw [State.localGrade, free, source, stale]

theorem State.localGrade_of_code {s : State} {r : RefNo} {c : Code} (free : (s.ref r).run.override = none)
    (source : (s.ref r).cfg.gradeSource = .message) (adopted : (s.ref r).run.adopted = some c) :
    s.localGrade r = (s.plan (s.ref r).cfg.codePlan).receive[c] := by
  rw [State.localGrade, free, source, adopted]

/-! ## Chains that end -/

theorem State.nextOnChain_of_feed {s : State} {h k : ShelfNo} {r : RefNo} {since : Nat}
    (locked : (s.shelf h).timing = some (.locked r since)) (feed : (s.ref r).cfg.kind = .feed)
    (home : (s.ref r).cfg.homeShelf = some k) : s.nextOnChain h = some k := by
  simp [State.nextOnChain, Shelf.selected, locked, Timing.selected, State.feedHome, feed, home]

/-- The chain goes on from the home shelf of the FEED a shelf is LOCKED on (R95). -/
theorem State.chainFrom_of_feed {s : State} {h k : ShelfNo} {r : RefNo} {since : Nat}
    (locked : (s.shelf h).timing = some (.locked r since)) (feed : (s.ref r).cfg.kind = .feed)
    (home : (s.ref r).cfg.homeShelf = some k) (n : Nat) : s.chainFrom (n + 1) h = h :: s.chainFrom n k := by
  rw [State.chainFrom, State.nextOnChain_of_feed locked feed home]

/-- A walk along the chain goes on from the home shelf of the FEED a shelf is LOCKED on (R92, R93). -/
theorem State.walk_of_feed {s : State} {h k : ShelfNo} {r : RefNo} {since : Nat}
    (locked : (s.shelf h).timing = some (.locked r since)) (feed : (s.ref r).cfg.kind = .feed)
    (home : (s.ref r).cfg.homeShelf = some k) (n : Nat) :
    s.tracedFrom (n + 1) h = s.tracedFrom n k ∧ s.rootFrom (n + 1) h = s.rootFrom n k := by
  simp [State.tracedFrom, State.rootFrom, locked, feed, home]

/-- A walk along the chain ends at a shelf that is LOCKED on no FEED of another shelf, however long it may be. -/
theorem State.walk_of_end {s : State} {h : ShelfNo}
    (ends : ∀ r since, (s.shelf h).timing = some (.locked r since) → (s.ref r).cfg.kind = .feed →
      (s.ref r).cfg.homeShelf = none) (m n : Nat) :
    s.tracedFrom (m + 1) h = s.tracedFrom (n + 1) h ∧ s.rootFrom (m + 1) h = s.rootFrom (n + 1) h := by
  rcases timing : (s.shelf h).timing with _ | _ | ⟨_, _ | _ | _, _⟩ | ⟨r, since⟩ | _
  case some.locked =>
    by_cases feed : (s.ref r).cfg.kind = .feed
    · simp [State.tracedFrom, State.rootFrom, timing, feed, ends r since timing feed]
    · simp [State.tracedFrom, State.rootFrom, timing, feed]
  all_goals simp [State.tracedFrom, State.rootFrom, timing]

/-- Where the chain of a shelf ends within n shelves, a walk of n shelves finds all that a longer one does. -/
theorem State.walk_succ {s : State} {n : Nat} {h : ShelfNo} (short : (s.chainFrom n h).length < n) :
    s.tracedFrom (n + 1) h = s.tracedFrom n h ∧ s.rootFrom (n + 1) h = s.rootFrom n h := by
  induction n generalizing h with
  | zero => omega
  | succ n ih =>
    by_cases goes : ∃ r since k, (s.shelf h).timing = some (.locked r since) ∧ (s.ref r).cfg.kind = .feed
        ∧ (s.ref r).cfg.homeShelf = some k
    · obtain ⟨r, since, k, locked, feed, home⟩ := goes
      rw [State.chainFrom_of_feed locked feed home, List.length_cons] at short
      obtain ⟨traced, root⟩ := ih (Nat.lt_of_succ_lt_succ short)
      obtain ⟨longTraced, longRoot⟩ := State.walk_of_feed locked feed home (n + 1)
      obtain ⟨shortTraced, shortRoot⟩ := State.walk_of_feed locked feed home n
      exact ⟨longTraced.trans (traced.trans shortTraced.symm), longRoot.trans (root.trans shortRoot.symm)⟩
    · refine State.walk_of_end (fun r since locked feed => ?_) (n + 1) n
      rcases home : (s.ref r).cfg.homeShelf with _ | k
      · rfl
      · exact absurd ⟨r, since, k, locked, feed, home⟩ goes

/-- No chain is as long as the walk along it may be. -/
theorem State.chainsSound.chain_short {s : State} (sound : s.chainsSound) (h : ShelfNo) :
    (s.chain h).length < Config.chainFuel := by
  obtain ⟨-, limit, depth, -⟩ := sound
  have short := depth h
  unfold State.depth at short
  unfold Config.chainFuel
  omega

/-- A shelf LOCKED on a FEED has the traced grade and the root of the home shelf (R92, R93, R98). -/
theorem State.chainsSound.follows {s : State} (sound : s.chainsSound) {h k : ShelfNo} {r : RefNo} {since : Nat}
    (locked : (s.shelf h).timing = some (.locked r since)) (feed : (s.ref r).cfg.kind = .feed)
    (home : (s.ref r).cfg.homeShelf = some k) : s.tracedGrade h = s.tracedGrade k ∧ s.root h = s.root k := by
  have short : (s.chainFrom 31 k).length < 31 := by
    have all : (s.chainFrom 32 h).length < 32 := sound.chain_short h
    rw [State.chainFrom_of_feed locked feed home, List.length_cons] at all
    omega
  obtain ⟨traced, root⟩ := State.walk_of_feed locked feed home 31
  obtain ⟨sameTraced, sameRoot⟩ := State.walk_succ short
  exact ⟨traced.trans sameTraced.symm, root.trans sameRoot.symm⟩

/-! ## The traced grade and the root of a shelf -/

theorem State.tracedGrade_of_locked {s : State} (sound : s.chainsSound) {h : ShelfNo} {r : RefNo} {since : Nat}
    (locked : (s.shelf h).timing = some (.locked r since)) : s.tracedGrade h = s.effectiveGrade r := by
  by_cases feed : (s.ref r).cfg.kind = .feed
  · rcases home : (s.ref r).cfg.homeShelf with _ | k
    · simp [State.tracedGrade, State.effectiveGrade, Config.chainFuel, State.tracedFrom, locked, feed, home]
    · obtain ⟨traced, -⟩ := sound.follows locked feed home
      rw [traced, State.effectiveGrade_of_feed feed home]
  · simp [State.effectiveGrade_of_local feed, State.tracedGrade, Config.chainFuel, State.tracedFrom, locked, feed]

theorem State.root_of_locked {s : State} {h : ShelfNo} {r : RefNo} {since : Nat}
    (locked : (s.shelf h).timing = some (.locked r since)) (other : (s.ref r).cfg.kind ≠ .feed) :
    s.root h = some r := by
  simp [State.root, Config.chainFuel, State.rootFrom, locked, other]

/-- Only a shelf in LOCKED has a root (R93). -/
theorem State.root_of_not_locked {s : State} {h : ShelfNo}
    (free : ∀ r since, (s.shelf h).timing ≠ some (.locked r since)) : s.root h = none := by
  rw [State.root, Config.chainFuel, State.rootFrom]
  split
  · rename_i r since locked
    exact absurd locked (free r since)
  · rfl

theorem State.tracedGrade_of_carried {s : State} {h : ShelfNo} {r : RefNo} {fallback : Fallback} {g : Nat}
    {x : SecondTimer} (acquiring : (s.shelf h).timing = some (.acquire r (.locked fallback g) x)) :
    s.tracedGrade h = g := by
  simp [State.tracedGrade, Config.chainFuel, State.tracedFrom, acquiring]

theorem State.tracedGrade_of_heldOver {s : State} {h : ShelfNo} {p : Holdover}
    (held : (s.shelf h).timing.bind Timing.heldOver = some p) :
    s.tracedGrade h = if p.aged then (s.shelf h).cfg.freeRunGrade else (s.shelf h).cfg.holdoverGrade := by
  rw [State.tracedGrade, Config.chainFuel, State.tracedFrom]
  rcases timing : (s.shelf h).timing with _ | _ | ⟨_, _ | _ | _, _⟩ | _ | _ <;>
    simp_all [Timing.heldOver, ShelfConfig.holdoverTrace]

theorem State.tracedGrade_of_freeRun {s : State} {h : ShelfNo}
    (free : (s.shelf h).timing = some .freeRun ∨ ∃ r x, (s.shelf h).timing = some (.acquire r .freeRun x)) :
    s.tracedGrade h = (s.shelf h).cfg.freeRunGrade := by
  rcases free with free | ⟨r, x, free⟩ <;> simp [State.tracedGrade, Config.chainFuel, State.tracedFrom, free]

theorem Shelf.timing_of_not_joined {x : Shelf} (away : x.isJoined = false) : x.timing = none := by
  rw [Shelf.isJoined, Option.isSome_eq_false_iff, Option.isNone_iff_eq_none] at away
  rw [Shelf.timing, away, Option.map_none]

/-- Settles O13: references by the rows of R68 and R98, shelves by their timing state. -/
theorem gradesAndRoots : Obligations.GradesAndRoots := by
  refine fun s => ⟨fun r other => ?_, fun r h feed home => State.effectiveGrade_of_feed feed home,
    fun sound h => ⟨fun away => ?_, fun r since locked => ⟨State.tracedGrade_of_locked sound locked,
      State.root_of_locked locked, fun k feed home => ?_⟩, fun r o x acquiring => ?_, fun p held => ?_, fun free => ?_⟩⟩
  · rw [State.effectiveGrade_of_local other]
    exact ⟨fun g given => State.localGrade_of_override given, fun free =>
      ⟨fun source => State.localGrade_of_other_source free source,
        fun source stale => State.localGrade_of_stale free source stale,
        fun c source adopted => State.localGrade_of_code free source adopted⟩⟩
  · have absent := Shelf.timing_of_not_joined away
    exact ⟨State.tracedGrade_of_not_joined absent, State.root_of_not_locked (by simp [absent])⟩
  · obtain ⟨-, root⟩ := sound.follows locked feed home
    exact root
  · refine ⟨State.root_of_not_locked (by simp [acquiring]), ?_, ?_, ?_⟩
    · rintro fallback carried rfl
      exact State.tracedGrade_of_carried acquiring
    · rintro p rfl
      exact State.tracedGrade_of_heldOver (by rw [acquiring]; rfl)
    · rintro rfl
      exact State.tracedGrade_of_freeRun (.inr ⟨r, x, acquiring⟩)
  · exact ⟨State.root_of_not_locked (by simp [held]), State.tracedGrade_of_heldOver (by rw [held]; rfl)⟩
  · exact ⟨State.root_of_not_locked (by simp [free]), State.tracedGrade_of_freeRun (.inl free)⟩

end Sys2Proof.Machine

/-!
SUPPORT. Events that write the codes, the message age or the card defect flag of a reference: what they leave as it
was, and the change of its defect condition that they hand on.
-/

namespace Sys2Proof.Machine

open Sys2Proof

/-! ## Grades of states whose references agree -/

/-- Two states agree on everything that R68 and R92 read. -/
structure SameGradeInputs (s t : State) : Prop where
  plan : ∀ p : PlanName, t.plan p = s.plan p
  cfg : ∀ r : RefNo, (t.ref r).cfg = (s.ref r).cfg
  override : ∀ r : RefNo, (t.ref r).run.override = (s.ref r).run.override
  adopted : ∀ r : RefNo, (t.ref r).run.adopted = (s.ref r).run.adopted
  shelf : ∀ h : ShelfNo, t.shelf h = s.shelf h

theorem SameGradeInputs.localGrade {s t : State} (a : SameGradeInputs s t) (r : RefNo) :
    t.localGrade r = s.localGrade r := by
  simp only [State.localGrade, a.plan, a.cfg, a.override, a.adopted]

theorem SameGradeInputs.tracedFrom {s t : State} (a : SameGradeInputs s t) (n : Nat) (h : ShelfNo) :
    t.tracedFrom n h = s.tracedFrom n h := by
  induction n generalizing h with
  | zero => rfl
  | succ n ih => simp only [State.tracedFrom, a.shelf, a.cfg, a.localGrade, ih]

theorem SameGradeInputs.effectiveGrade {s t : State} (a : SameGradeInputs s t) (r : RefNo) :
    t.effectiveGrade r = s.effectiveGrade r := by
  simp only [State.effectiveGrade, State.tracedGrade, a.cfg, a.localGrade, a.tracedFrom]

/-- Changes of grade are counted alike from states of equal grades. -/
theorem gradeReports_of_grades {s t : State} (grades : ∀ r, t.effectiveGrade r = s.effectiveGrade r) (u : State) :
    gradeReports t u = gradeReports s u := by
  simp only [gradeReports, State.regraded, grades]

/-! ## What one event after another keeps -/

theorem KeepsService.trans {s t u : State} (a : KeepsService s t) (b : KeepsService t u) : KeepsService s u := by
  obtain ⟨service, inService, threshold, ageLimit⟩ := a
  obtain ⟨service', inService', threshold', ageLimit'⟩ := b
  exact ⟨service'.trans service, inService'.trans inService, threshold'.trans threshold, ageLimit'.trans ageLimit⟩

theorem KeepsSettings.trans {s t u : State} (a : KeepsSettings s t) (b : KeepsSettings t u) : KeepsSettings s u := by
  obtain ⟨time, dh, held, pending, trim, planA, planB, persistence, depth, silence, pass, count, refs, shelves, holds,
    service⟩ := a
  obtain ⟨time', dh', held', pending', trim', planA', planB', persistence', depth', silence', pass', count', refs',
    shelves', holds', service'⟩ := b
  exact ⟨time'.trans time, dh'.trans dh, held'.trans held, pending'.trans pending, trim'.trans trim,
    planA'.trans planA, planB'.trans planB, persistence'.trans persistence, depth'.trans depth, silence'.trans silence,
    pass'.trans pass, count'.trans count, fun r => (refs' r).trans (refs r), fun h => (shelves' h).trans (shelves h),
    fun h => (holds' h).trans (holds h), KeepsService.trans service service'⟩

theorem KeepsOtherRefs.trans {r : RefNo} {s t u : State} (a : KeepsOtherRefs r s t) (b : KeepsOtherRefs r t u) :
    KeepsOtherRefs r s u := fun q other => by
  obtain ⟨ref, chan⟩ := a q other
  obtain ⟨ref', chan'⟩ := b q other
  exact ⟨ref'.trans ref, chan'.trans chan⟩

/-! ## Writing the running part of one reference -/

theorem State.cfg_setRun (r q : RefNo) (f : RefRunning → RefRunning) (s : State) :
    ((s.setRun r f).ref q).cfg = (s.ref q).cfg := (s.setRun_keepsHardware r f).cfg q

theorem State.setRun_keepsSettings (r : RefNo) (f : RefRunning → RefRunning) (s : State) :
    KeepsSettings s (s.setRun r f) :=
  ⟨rfl, rfl, rfl, rfl, rfl, rfl, rfl, rfl, rfl, rfl, rfl, rfl, fun q => s.cfg_setRun r q f, fun _ => rfl, fun _ => rfl,
    rfl, rfl, rfl, rfl⟩

theorem State.setRun_keepsOtherRefs (r : RefNo) (f : RefRunning → RefRunning) (s : State) :
    KeepsOtherRefs r s (s.setRun r f) := fun _ other => ⟨s.ref_setRun_of_ne f other, rfl⟩

theorem State.setRun_sameMasks (r : RefNo) (f : RefRunning → RefRunning) (s : State) : SameMasks s (s.setRun r f) :=
  ⟨rfl, fun q => by rw [State.cfg_setRun], fun _ => rfl⟩

theorem State.setRun_posts (r : RefNo) (f : RefRunning → RefRunning) (s : State) : Posts [] s (s.setRun r f) :=
  (s.setRun_sameMasks r f).posts_nil rfl

theorem State.defect_setRun {r : RefNo} {f : RefRunning → RefRunning} {s : State}
    (card : (f (s.ref r).run).cardDefect = (s.ref r).run.cardDefect) : (s.setRun r f).defect r = s.defect r :=
  State.defect_congr rfl rfl (by rw [State.ref_setRun_same]; exact card)

/-! ## A reference whose standing is kept -/

/-- The fields of a record that a change of the defect condition reads or writes, and its override, are the same
(section 1.8). -/
structure RefRecord.SameStanding (x y : RefRecord) : Prop where
  cfg : y.cfg = x.cfg
  availability : y.run.availability = x.run.availability
  firstQualification : y.run.firstQualification = x.run.firstQualification
  failTimer : y.run.failTimer = x.run.failTimer
  restoreTimer : y.run.restoreTimer = x.run.restoreTimer
  override : y.run.override = x.run.override

theorem RefRecord.SameStanding.trans {x y z : RefRecord} (a : x.SameStanding y) (b : y.SameStanding z) :
    x.SameStanding z where
  cfg := b.cfg.trans a.cfg
  availability := b.availability.trans a.availability
  firstQualification := b.firstQualification.trans a.firstQualification
  failTimer := b.failTimer.trans a.failTimer
  restoreTimer := b.restoreTimer.trans a.restoreTimer
  override := b.override.trans a.override

/-- The table of section 1.8 leaves the codes, the message age and the card defect flag as they are. -/
theorem RefRecord.SameStanding.runAfter {x y : RefRecord} (same : x.SameStanding y) (tick now : Nat) (b a : Bool) :
    Machine.runAfter y tick now b a = { Machine.runAfter x tick now b a with
      adopted := y.run.adopted
      candidate := y.run.candidate
      candidateCount := y.run.candidateCount
      messageAge := y.run.messageAge
      cardDefect := y.run.cardDefect } := by
  obtain ⟨xcfg, xrun⟩ := x
  obtain ⟨ycfg, yrun⟩ := y
  obtain ⟨cfg, availability, first, fail, restore, override⟩ := same
  obtain ⟨_, _, _, _, _, _, _, _, _, _⟩ := xrun
  obtain ⟨_, _, _, _, _, _, _, _, _, _⟩ := yrun
  dsimp only at cfg availability first fail restore override
  subst cfg availability first fail restore override
  unfold Machine.runAfter
  by_cases unused : ycfg.kind = .unused
  · simp only [unused, if_true]
  · simp only [unused, if_false]
    split
    · split <;> rfl
    · rfl
    · rfl
    · split
      · rfl
      · split <;> rfl
    · rfl

theorem RefRecord.SameStanding.entersFailed {x y : RefRecord} (same : x.SameStanding y) (b a : Bool) :
    Machine.entersFailed y b a = Machine.entersFailed x b a := by
  simp only [Machine.entersFailed, same.runAfter, same.availability]

theorem RefRecord.SameStanding.availabilityReports {x y : RefRecord} (same : x.SameStanding y) (r : RefNo)
    (b a : Bool) : Machine.availabilityReports r y b a = Machine.availabilityReports r x b a := by
  simp only [Machine.availabilityReports, same.cfg, same.availability, same.firstQualification]

/-- An event has so far written the codes, the message age or the card defect flag of ref r, and what belongs to the
Quality Highway. -/
structure KeepsStanding (r : RefNo) (s t : State) : Prop where
  engine : t.engine = s.engine
  standing : (s.ref r).SameStanding (t.ref r)
  settings : KeepsSettings s t
  others : KeepsOtherRefs r s t

theorem KeepsStanding.trans {r : RefNo} {s t u : State} (a : KeepsStanding r s t) (b : KeepsStanding r t u) :
    KeepsStanding r s u where
  engine := b.engine.trans a.engine
  standing := a.standing.trans b.standing
  settings := KeepsSettings.trans a.settings b.settings
  others := KeepsOtherRefs.trans a.others b.others

theorem KeepsStanding.shelf {r : RefNo} {s t : State} (a : KeepsStanding r s t) (h : ShelfNo) :
    t.shelf h = s.shelf h := State.shelf_congr (by rw [a.engine]) h

theorem KeepsStanding.time {r : RefNo} {s t : State} (a : KeepsStanding r s t) : t.time = s.time := by
  obtain ⟨time, -⟩ := a.settings
  exact time

theorem KeepsStanding.now {r : RefNo} {s t : State} (a : KeepsStanding r s t) : t.now = s.now := by
  unfold State.now
  rw [a.time]

/-- The running part of ref r written in fields that its standing does not rest on. -/
theorem State.setRun_keepsStanding (r : RefNo) {f : RefRunning → RefRunning} {s : State}
    (same : (s.ref r).SameStanding { s.ref r with run := f (s.ref r).run }) : KeepsStanding r s (s.setRun r f) where
  engine := rfl
  standing := by rw [State.ref_setRun_same]; exact same
  settings := s.setRun_keepsSettings r f
  others := s.setRun_keepsOtherRefs r f

theorem State.post_keepsStanding (r : RefNo) (rep : Report) (s : State) : KeepsStanding r s (s.post rep) where
  engine := s.post_engine rep
  standing := by rw [State.ref_post]; exact ⟨rfl, rfl, rfl, rfl, rfl, rfl⟩
  settings := ((s.post_shelfMove rep).refMove r).keepsSettings
  others := ((s.post_shelfMove rep).refMove r).keepsOtherRefs

/-! ## The change of a defect condition, and the grades handed on -/

/-- The defect condition of ref r has changed under an event that had kept its standing: what the event leaves once the
change is taken and the grades are handed on. -/
theorem KeepsStanding.defectOutcome {r : RefNo} {s before base u t : State} {earlier : List Report}
    (kept : KeepsStanding r s u) (grades : ∀ q, before.effectiveGrade q = s.effectiveGrade q)
    (posted : Posts earlier s u) (event : before.handOnGrades (base.takeDefect r u) = t) :
    (t.ref r).run = runAfter (u.ref r) s.time.tickCount s.now (base.defect r) (u.defect r)
      ∧ DefectOutcome r earlier (base.defect r) (u.defect r) s t ∧ KeepsLists s t ∧ RefMove r u t := by
  have taken := base.takeDefect_move r u
  have handed := before.handOnGrades_posts (base.takeDefect r u)
  have reports : gradeReports before (base.takeDefect r u) = gradeReports s t := by
    rw [← event, ← gradeReports_of_grades grades, gradeReports_handOnGrades]
  have move : RefMove r u t := event ▸ (base.takeDefect_refMove r u).trans
    ((before.handOnGrades_shelfMove _).refMove r)
  have record : t.ref r = { u.ref r with run := runAfter (u.ref r) s.time.tickCount s.now (base.defect r) (u.defect r) }
      := by
    rw [← event, (before.handOnGrades_shelfMove _).ref, State.ref_takeDefect_same, kept.time, kept.now]
  have shelf (h : ShelfNo) : t.shelf h
      = if entersFailed (s.ref r) (base.defect r) (u.defect r) then shelfOff s r h else s.shelf h := by
    rw [← event, State.handOnGrades_shelf, taken.shelf, kept.standing.entersFailed, kept.shelf,
      shelfOff_congr kept.now (kept.shelf h)]
  have off : offReports u r = offReports s r := funext fun h => offReports_congr kept.now (kept.shelf h) r
  have run : (t.ref r).run = runAfter (u.ref r) s.time.tickCount s.now (base.defect r) (u.defect r) := by rw [record]
  refine ⟨run, ⟨?_, ?_, ?_, ?_, shelf, ?_, ?_⟩, fun h => ?_, move⟩
  · rw [run, kept.standing.runAfter]
  · rw [run, kept.standing.runAfter]
  · rw [run, kept.standing.runAfter]
  · rw [run, kept.standing.runAfter]
  · rw [← reports, ← event, State.handOnGrades_passPending, taken.passPending, kept.engine,
      (before.handOnGrades_shelfMove _).ref, kept.standing.availability]
  · rw [← reports, ← event, ((posted.trans taken.posts).trans handed).queue, defectReports,
      kept.standing.availabilityReports, kept.standing.entersFailed, off, List.append_assoc, List.append_assoc,
      List.append_assoc, List.append_assoc]
  · rw [shelf]
    split
    · exact shelfOff_keeps s r h
    · exact ⟨rfl, rfl⟩

end Sys2Proof.Machine

/-!
SUPPORT. MESSAGE_AGE_EXPIRY and the delivery of a status block.
-/

namespace Sys2Proof.Machine

open Sys2Proof

/-! ## The message age runs out -/

theorem State.messageAgeDue_iff (s : State) (r : RefNo) :
    s.messageAgeDue r = true ↔ ∃ x, (s.ref r).run.messageAge = some ⟨x, true⟩ := by
  unfold State.messageAgeDue timerReached
  rcases (s.ref r).run.messageAge with _ | ⟨x, reached⟩ <;> simp

theorem execMessageAgeExpiry_of_due {s : State} {r : RefNo} (running : s.resetHeld = false)
    (due : s.messageAgeDue r = true) :
    exec (.messageAgeExpiry r.val) s = .next (State.regrading (State.goStale r) s) := by
  rw [exec, execMessageAgeExpiry, onRef_of_lt r.val r.isLt]
  exact eventIf_of_due _ s _ running due

theorem execMessageAgeExpiry_of_not_due {s : State} {r : RefNo} (h : ¬ s.messageAgeDue r = true) :
    exec (.messageAgeExpiry r.val) s = .next s := by
  rw [exec, execMessageAgeExpiry, onRef_of_lt r.val r.isLt]
  exact eventIf_of_not_due _ s _ (by simpa using h)

/-- The adopted code and the candidate dropped, and REF_STALE posted: steps 1 to 3 of R66. -/
def State.dropCodes (r : RefNo) (s : State) : State :=
  (s.setRun r fun x => { x with messageAge := none, adopted := none, candidate := none, candidateCount := 0 }).post
    (.refStale r)

/-- The card defect flag written, and its change not yet taken (R65). -/
def State.flagCard (r : RefNo) (d : Bool) (s : State) : State := s.setRun r fun x => { x with cardDefect := d }

/-- The event of R66: the codes dropped, the card defect flag cleared and its change taken, and the grades handed on. -/
theorem State.regrading_goStale (r : RefNo) (s : State) :
    State.regrading (State.goStale r) s
      = s.handOnGrades ((s.dropCodes r).takeDefect r ((s.dropCodes r).flagCard r false)) := rfl

theorem State.flagCard_keepsStanding (r : RefNo) (d : Bool) (s : State) : KeepsStanding r s (s.flagCard r d) :=
  State.setRun_keepsStanding r ⟨rfl, rfl, rfl, rfl, rfl, rfl⟩

theorem State.dropCodes_keepsStanding (r : RefNo) (s : State) : KeepsStanding r s (s.dropCodes r) :=
  (State.setRun_keepsStanding r ⟨rfl, rfl, rfl, rfl, rfl, rfl⟩).trans (State.post_keepsStanding r _ _)

theorem State.dropCodes_posts (r : RefNo) (s : State) : Posts [.refStale r] s (s.dropCodes r) :=
  (s.setRun_posts r _).trans (State.post_posts _ _)

theorem State.defect_dropCodes (r : RefNo) (s : State) : (s.dropCodes r).defect r = s.defect r :=
  ((State.post_shelfMove _ _).keepsReferences.defect r).trans (State.defect_setRun rfl)

theorem State.run_dropCodes_flagCard (r : RefNo) (s : State) :
    (((s.dropCodes r).flagCard r false).ref r).run = { (s.ref r).run with
      messageAge := none
      adopted := none
      candidate := none
      candidateCount := 0
      cardDefect := false } := by
  simp [State.flagCard, State.dropCodes]

/-- Settles O15: the change of the defect condition taken after the codes are dropped, in one event. -/
theorem messageAgeExpiryMakesTheGradeStale : Obligations.MessageAgeExpiryMakesTheGradeStale := by
  refine fun s r running => ⟨fun x timer => ?_, fun early => ?_⟩
  · have kept := (s.dropCodes_keepsStanding r).trans ((s.dropCodes r).flagCard_keepsStanding r false)
    have posted : Posts [.refStale r] s ((s.dropCodes r).flagCard r false) :=
      (s.dropCodes_posts r).trans (State.setRun_posts r _ _)
    obtain ⟨t, event⟩ : ∃ t : State, State.regrading (State.goStale r) s = t := ⟨_, rfl⟩
    obtain ⟨run, outcome, lists, move⟩ :=
      kept.defectOutcome (fun _ => rfl) posted ((s.regrading_goStale r).symm.trans event)
    rw [State.defect_dropCodes] at run outcome
    refine ⟨t, event ▸ execMessageAgeExpiry_of_due running ((s.messageAgeDue_iff r).2 ⟨x, timer⟩), ?_, ?_, ?_,
      KeepsSettings.trans kept.settings move.keepsSettings, ?_,
      KeepsOtherRefs.trans kept.others move.keepsOtherRefs, lists⟩
    · rw [run, move.defect, kept.standing.runAfter, State.run_dropCodes_flagCard]
    · rw [move.defect]
      exact outcome
    · exact move.monitor.trans (by simp [State.flagCard, State.dropCodes, State.setRun])
    · exact ⟨move.qh.trans (by simp [State.flagCard, State.dropCodes, State.setRun]),
        move.port.trans (by simp [State.flagCard, State.dropCodes, State.setRun])⟩
  · refine execMessageAgeExpiry_of_not_due fun due => ?_
    obtain ⟨x, reached⟩ := (s.messageAgeDue_iff r).1 due
    rcases early with absent | ⟨y, toCome⟩
    · simp [absent] at reached
    · simp [toCome] at reached

end Sys2Proof.Machine

/-!
SUPPORT. Events that write only the Reference Unit and hand on the grades that change: the last step of a status block,
LOAD CODE PLAN, SET GRADE OVERRIDE and SET MODE.
-/

namespace Sys2Proof.Machine

open Sys2Proof

/-! ## Grades handed on after a write to the Reference Unit -/

/-- An event that writes the Reference Unit alone, and no report mask, leaves that write, the pass and the reports of
the grades it changes (R69). -/
theorem State.handOnGrades_of_refs {s u t : State} (written : u = { s with refs := u.refs }) (masks : SameMasks s u)
    (event : s.handOnGrades u = t) :
    t = { s with
      refs := u.refs
      engine := { s.engine with passPending := s.engine.passPending || !(gradeReports s t).isEmpty }
      queue := (s.postAll (gradeReports s t)).queue } := by
  have reports : gradeReports s u = gradeReports s t := by rw [← event, gradeReports_handOnGrades]
  have engine : u.engine = s.engine := by rw [written]
  have queue : (u.postAll (gradeReports s t)).queue = (s.postAll (gradeReports s t)).queue :=
    masks.postAll_queue (by rw [written]) _
  calc
    t = s.handOnGrades u := event.symm
    _ = { u with
          engine := { s.engine with passPending := s.engine.passPending || !(gradeReports s t).isEmpty }
          queue := (s.postAll (gradeReports s t)).queue } := by
      rw [State.handOnGrades_eq, reports, engine, queue]
    _ = _ := by rw [written]

theorem SameMasks.of_cfg {s u : State} (written : u = { s with refs := u.refs })
    (cfg : ∀ r, (u.ref r).cfg = (s.ref r).cfg) : SameMasks s u :=
  ⟨by rw [written]; rfl, fun r => by rw [cfg], fun h => by rw [written]; rfl⟩

end Sys2Proof.Machine

/-!
SUPPORT. The delivery of a status block.
-/

namespace Sys2Proof.Machine

open Sys2Proof

/-! ## The message age and the card defect flag -/

theorem KeepsSettings.sameMasks {s t : State} (a : KeepsSettings s t) : SameMasks s t := by
  obtain ⟨time, -, -, -, -, -, -, -, -, -, -, -, refs, shelves, -⟩ := a
  exact ⟨by rw [State.now, time]; rfl, fun r => by rw [refs], fun h => by rw [shelves]⟩

/-- The table of section 1.8 writes no code. -/
theorem runAfter_codes (x : RefRecord) (tick now : Nat) (b a : Bool) :
    (runAfter x tick now b a).adopted = x.run.adopted ∧ (runAfter x tick now b a).candidate = x.run.candidate
      ∧ (runAfter x tick now b a).candidateCount = x.run.candidateCount := by
  have same : x.SameStanding x := ⟨rfl, rfl, rfl, rfl, rfl, rfl⟩
  rw [same.runAfter]
  exact ⟨rfl, rfl, rfl⟩

/-- The state in which the last word of a block is judged: the position moved on and the assembler in HUNT (R52). -/
def State.completing (n : SlotNo) (f : Framing) (s : State) : State := (s.passWord n f).setAssembler n .hunt

@[simp] theorem State.ref_completing (n : SlotNo) (f : Framing) (s : State) (r : RefNo) :
    (s.completing n f).ref r = s.ref r := rfl

@[simp] theorem State.now_completing (n : SlotNo) (f : Framing) (s : State) : (s.completing n f).now = s.now := rfl

theorem State.completing_keepsStanding (r : RefNo) (n : SlotNo) (f : Framing) (s : State) :
    KeepsStanding r s (s.completing n f) where
  engine := rfl
  standing := ⟨rfl, rfl, rfl, rfl, rfl, rfl⟩
  settings := ⟨rfl, rfl, rfl, rfl, rfl, rfl, rfl, rfl, rfl, rfl, rfl, rfl, fun _ => rfl, fun _ => rfl, fun _ => rfl,
    rfl, rfl, rfl, rfl⟩
  others := fun _ _ => ⟨rfl, rfl⟩

theorem State.renewAge_keepsStanding (r : RefNo) (s : State) : KeepsStanding r s (s.renewAge r) :=
  State.setRun_keepsStanding r ⟨rfl, rfl, rfl, rfl, rfl, rfl⟩

/-- No grade rests on the message age (R68). -/
theorem State.renewAge_sameGradeInputs (r : RefNo) (s : State) : SameGradeInputs s (s.renewAge r) where
  plan p := by cases p <;> rfl
  cfg q := s.cfg_setRun r q _
  override q := by
    by_cases e : q = r
    · rw [e, State.renewAge, State.ref_setRun_same]
    · rw [State.renewAge, State.ref_setRun_of_ne _ s e]
  adopted q := by
    by_cases e : q = r
    · rw [e, State.renewAge, State.ref_setRun_same]
    · rw [State.renewAge, State.ref_setRun_of_ne _ s e]
  shelf _ := rfl

theorem State.run_renewAge_flagCard (r : RefNo) (d : Bool) (s : State) :
    (((s.renewAge r).flagCard r d).ref r).run = { (s.ref r).run with
      messageAge := some ⟨min (s.now + (s.ref r).cfg.messageAgeLimit) 4294967295, false⟩
      cardDefect := d } := by
  simp [State.flagCard, State.renewAge, State.timerIn, capTime, Config.topTime]

/-- The first two steps of a delivery, each handing on its grades (R63, R65, R66). -/
def State.ageAndFlag (r : RefNo) (d : Bool) (s : State) : State :=
  (s.renewAge r).handOnGrades ((s.renewAge r).takeDefect r ((s.renewAge r).flagCard r d))

theorem State.deliverStatus_eq (r : RefNo) (c : Code) (d : Bool) (s : State) :
    s.deliverStatus r c d = (s.ageAndFlag r d).handOnGrades ((s.ageAndFlag r d).takeCode r c) := rfl

/-- The first two steps of the delivery of a block that completes in slot n. -/
theorem State.ageAndFlag_outcome {s u : State} (r : RefNo) (n : SlotNo) (f : Framing) (d : Bool)
    (event : (s.completing n f).ageAndFlag r d = u) :
    (u.ref r).run = { runAfter (s.ref r) s.time.tickCount s.now (s.defect r) (u.defect r) with
        messageAge := some ⟨min (s.now + (s.ref r).cfg.messageAgeLimit) 4294967295, false⟩
        cardDefect := d }
      ∧ DefectOutcome r [] (s.defect r) (u.defect r) s u
      ∧ u.qh = (s.completing n f).qh ∧ u.port = s.port ∧ u.monitor = s.monitor
      ∧ KeepsSettings s u ∧ KeepsOtherRefs r s u ∧ KeepsLists s u := by
  have renewed := (s.completing_keepsStanding r n f).trans ((s.completing n f).renewAge_keepsStanding r)
  have kept := renewed.trans (((s.completing n f).renewAge r).flagCard_keepsStanding r d)
  have grades (q : RefNo) : ((s.completing n f).renewAge r).effectiveGrade q = s.effectiveGrade q :=
    ((s.completing n f).renewAge_sameGradeInputs r).effectiveGrade q
  have posted : Posts [] s (((s.completing n f).renewAge r).flagCard r d) :=
    (KeepsSettings.sameMasks kept.settings).posts_nil rfl
  obtain ⟨run, outcome, lists, move⟩ := kept.defectOutcome grades posted event
  have before : ((s.completing n f).renewAge r).defect r = s.defect r :=
    State.defect_setRun (s := s.completing n f) rfl
  rw [before] at run outcome
  refine ⟨?_, ?_, move.qh, move.port, move.monitor, KeepsSettings.trans kept.settings move.keepsSettings,
    KeepsOtherRefs.trans kept.others move.keepsOtherRefs, lists⟩
  · obtain ⟨adopted, candidate, count⟩ :=
      runAfter_codes (s.ref r) s.time.tickCount s.now (s.defect r) (u.defect r)
    rw [run, ← move.defect, kept.standing.runAfter, State.run_renewAge_flagCard]
    simp only [State.ref_completing, State.now_completing, adopted, candidate, count]
  · rw [move.defect]
    exact outcome

/-! ## The quality code -/

theorem State.run_takeCode (r : RefNo) (c : Code) (s : State) :
    ((s.takeCode r c).ref r).run = if (s.ref r).cfg.gradeSource = .message then
      (s.ref r).run.persist s.refs.persistence c else (s.ref r).run := by
  unfold State.takeCode
  split
  · rw [State.ref_setRun_same]
  · rfl

theorem State.takeCode_written (r : RefNo) (c : Code) (s : State) :
    s.takeCode r c = { s with refs := (s.takeCode r c).refs } := by
  unfold State.takeCode
  split <;> rfl

theorem State.takeCode_keeps (r : RefNo) (c : Code) (s : State) :
    KeepsSettings s (s.takeCode r c) ∧ KeepsOtherRefs r s (s.takeCode r c) := by
  unfold State.takeCode
  split
  · exact ⟨s.setRun_keepsSettings r _, s.setRun_keepsOtherRefs r _⟩
  · exact ⟨(RefMove.refl r s).keepsSettings, (RefMove.refl r s).keepsOtherRefs⟩

/-- The last step of a delivery (R63, R64, R69). -/
theorem State.takeCode_outcome {u t : State} (r : RefNo) (c : Code) (event : u.handOnGrades (u.takeCode r c) = t) :
    (t.ref r).run = (if (u.ref r).cfg.gradeSource = .message then (u.ref r).run.persist u.refs.persistence c
        else (u.ref r).run)
      ∧ t = { u with
          refs := t.refs
          engine := { u.engine with passPending := u.engine.passPending || !(gradeReports u t).isEmpty }
          queue := (u.postAll (gradeReports u t)).queue }
      ∧ KeepsSettings u t ∧ KeepsOtherRefs r u t := by
  obtain ⟨settings, others⟩ := u.takeCode_keeps r c
  have whole := State.handOnGrades_of_refs (u.takeCode_written r c) (KeepsSettings.sameMasks settings) event
  have handed : RefMove r (u.takeCode r c) t := event ▸ (u.handOnGrades_shelfMove _).refMove r
  have refs : t.refs = (u.takeCode r c).refs := by rw [← event, State.handOnGrades_refs]
  refine ⟨?_, refs ▸ whole, KeepsSettings.trans settings handed.keepsSettings,
    KeepsOtherRefs.trans others handed.keepsOtherRefs⟩
  rw [State.ref_congr refs, State.run_takeCode]

/-- Settles O20: the first two steps of the delivery up to the state between, and the last step from it. -/
theorem statusBlocksAreDelivered : Obligations.StatusBlocksAreDelivered := by
  intro s n f length words value r code defect running aligned before turn collecting whole good bound
  obtain ⟨u, first⟩ : ∃ u : State, (s.completing n f).ageAndFlag r defect = u := ⟨_, rfl⟩
  obtain ⟨t, last⟩ : ∃ t : State, u.handOnGrades (u.takeCode r code) = t := ⟨_, rfl⟩
  have delivered : (s.completing n f).judgeBlock n (words ++ [value]) = t := by
    rw [State.judgeBlock_of_bound good (((s.completing n f).bound_status_iff n r code defect).2 bound), State.deliver,
      State.deliverStatus_eq, first, last]
  have word := execWordReceived_of_completing running aligned before turn collecting (Nat.le_of_eq whole) value
  obtain ⟨run, outcome, qh, port, monitor, settings, others, lists⟩ := State.ageAndFlag_outcome r n f defect first
  obtain ⟨taken, rest, settings', others'⟩ := State.takeCode_outcome r code last
  refine ⟨u, t, word.trans (congrArg _ delivered), run, outcome, qh, port, monitor, settings, others, lists, ?_,
    (congrArg State.queue rest :), (congrArg State.engine rest :), (congrArg State.qh rest :),
    (congrArg State.port rest :), (congrArg State.monitor rest :), settings', others'⟩
  obtain ⟨-, -, -, -, -, -, -, persistence, -, -, -, -, cfg, -⟩ := settings
  rw [taken, cfg, persistence]

end Sys2Proof.Machine

/-!
SUPPORT. LOAD CODE PLAN, SET GRADE OVERRIDE, SET MODE and RESET: what each finds in its body, and the state that an
accepted one leaves.
-/

namespace Sys2Proof.Machine

open Sys2Proof

/-! ## Entries one byte long -/

theorem length_flatMap_put8 (l : List Nat) : (l.flatMap put8).length = l.length := by
  induction l with
  | nil => rfl
  | cons g rest ih => rw [List.flatMap_cons, List.length_append, length_put8, ih, List.length_cons, Nat.add_comm]

/-- The entries put one after another are read in order, from wherever the first of them stands. -/
theorem map_byteAt_flatMap_put8 {l : List Nat} (bytes : ∀ g ∈ l, g ≤ 255) (before rest : List Byte) :
    (List.range l.length).map (fun i => byteAt (before ++ (l.flatMap put8 ++ rest)) (before.length + i)) = l := by
  induction l generalizing before with
  | nil => rfl
  | cons g tail ih =>
    have first : byteAt (before ++ ((g :: tail).flatMap put8 ++ rest)) before.length = g := by
      simp [byteAt, put8, Nat.mod_eq_of_lt (Nat.lt_succ_of_le (bytes g List.mem_cons_self))]
    have others := ih (fun x inside => bytes x (List.mem_cons_of_mem g inside)) (before ++ put8 g)
    simp only [List.append_assoc, List.length_append, length_put8, Nat.add_assoc, Nat.add_comm 1] at others
    rw [List.length_cons, List.range_succ_eq_map, List.map_cons, List.map_map, Nat.add_zero, first, List.flatMap_cons,
      List.append_assoc]
    exact congrArg (g :: ·) others

/-! ## The body of LOAD CODE PLAN -/

/-- The body of LOAD CODE PLAN: the number of the plan and the entries of its two maps (R61). -/
def loadPlanBody (plan : Nat) (receive send : List Nat) : List Byte :=
  put8 plan ++ receive.flatMap put8 ++ send.flatMap put8

section
variable {plan : Nat} {receive send : List Nat}

theorem length_loadPlanBody (receives : receive.length = 16) (sends : send.length = 13) :
    (loadPlanBody plan receive send).length = 30 := by
  simp only [loadPlanBody, List.length_append, length_put8, length_flatMap_put8, receives, sends]

theorem byteAt_loadPlanBody_zero (named : plan ≤ 255) : byteAt (loadPlanBody plan receive send) 0 = plan := by
  rw [loadPlanBody, List.append_assoc]
  exact byteAt_put8_append named _

theorem receive_loadPlanBody (receives : receive.length = 16) (bytes : ∀ g ∈ receive, g ≤ 255) :
    (List.range 16).map (fun i => byteAt (loadPlanBody plan receive send) (1 + i)) = receive := by
  have entries := map_byteAt_flatMap_put8 bytes (put8 plan) (send.flatMap put8)
  rwa [receives, length_put8, ← List.append_assoc] at entries

theorem send_loadPlanBody (receives : receive.length = 16) (sends : send.length = 13) (bytes : ∀ c ∈ send, c ≤ 255) :
    (List.range 13).map (fun i => byteAt (loadPlanBody plan receive send) (17 + i)) = send := by
  have entries := map_byteAt_flatMap_put8 bytes (put8 plan ++ receive.flatMap put8) []
  rwa [sends, List.append_nil, List.length_append, length_put8, length_flatMap_put8, receives] at entries

/-- The value check by the entries put into the body. -/
theorem loadCodePlanBadValue_iff (named : plan ≤ 255) (receives : receive.length = 16) (sends : send.length = 13)
    (grades : ∀ g ∈ receive, g ≤ 255) (codes : ∀ c ∈ send, c ≤ 255) :
    loadCodePlanBadValue (loadPlanBody plan receive send) = true
      ↔ 1 < plan ∨ (∃ g ∈ receive, gradeValid g = false) ∨ ∃ c ∈ send, 15 < c := by
  have receiving : (List.range 16).any (fun i => !gradeValid (byteAt (loadPlanBody plan receive send) (1 + i)))
      = receive.any fun g => !gradeValid g := by
    conv_rhs => rw [← receive_loadPlanBody (plan := plan) (send := send) receives grades, List.any_map]
    rfl
  have sending : (List.range 13).any (fun i => decide (15 < byteAt (loadPlanBody plan receive send) (17 + i)))
      = send.any fun c => decide (15 < c) := by
    conv_rhs => rw [← send_loadPlanBody (plan := plan) receives sends codes, List.any_map]
    rfl
  rw [loadCodePlanBadValue, byteAt_loadPlanBody_zero named, receiving, sending]
  simp only [Bool.or_eq_true, decide_eq_true_eq, List.any_eq_true, Bool.not_eq_true', or_assoc]

theorem receive_codePlanOf (receives : receive.length = 16) (grades : ∀ g ∈ receive, g ≤ 255) :
    (codePlanOf (loadPlanBody plan receive send)).receive.toList = receive := by
  conv_rhs => rw [← receive_loadPlanBody (plan := plan) (send := send) receives grades]
  rfl

theorem send_codePlanOf (receives : receive.length = 16) (sends : send.length = 13) (codes : ∀ c ∈ send, c ≤ 15) :
    (codePlanOf (loadPlanBody plan receive send)).send.toList.map (·.val) = send := by
  have remainders : (codePlanOf (loadPlanBody plan receive send)).send.toList.map (·.val)
      = ((List.range 13).map fun i => byteAt (loadPlanBody plan receive send) (17 + i)).map (· % 16) := rfl
  rw [remainders, send_loadPlanBody receives sends fun c inside => (codes c inside).trans (by decide)]
  calc
    send.map (· % 16) = send.map id := List.map_congr_left fun c inside => by
      have := codes c inside
      exact Nat.mod_eq_of_lt (by omega)
    _ = send := List.map_id send

end

/-! ## LOAD CODE PLAN -/

theorem execLoadCodePlan_of_asks {s : State} {f : Frame} (asks : s.asks 5 f) :
    exec .loadCodePlan s = .next (State.sendReply f (serveLoadCodePlan f.body s)) := by
  rw [exec, execLoadCodePlan, takeRequest_of_asks _ _ s 5 f asks rfl]

theorem serveLoadCodePlan_of_bad {body : List Byte} {s : State} (size : body.length = 30)
    (bad : loadCodePlanBadValue body = true) : serveLoadCodePlan body s = refuse s .badValue [] := by
  rw [serveLoadCodePlan, if_neg (not_not.2 size), if_pos bad]

theorem serveLoadCodePlan_of_good {body : List Byte} {s : State} {p : PlanName} (size : body.length = 30)
    (good : ¬ loadCodePlanBadValue body = true) (named : PlanName.ofCode (byteAt body 0) = some p) :
    serveLoadCodePlan body s = accept (s.handOnGrades (s.setPlan p (codePlanOf body))) false [] := by
  rw [serveLoadCodePlan, if_neg (not_not.2 size), if_neg good, named]
  rfl

theorem State.setPlan_written (p : PlanName) (x : CodePlan) (s : State) :
    s.setPlan p x = { s with refs := (s.setPlan p x).refs } := by cases p <;> rfl

/-- A plan stored replaces the plan of its name and nothing else of the Reference Unit. -/
theorem State.refs_of_setPlan {s t : State} {p : PlanName} {x : CodePlan} (refs : t.refs = (s.setPlan p x).refs) :
    t.plan p = x ∧ (∀ q, q ≠ p → t.plan q = s.plan q) ∧ t.refs.records = s.refs.records
      ∧ t.refs.persistence = s.refs.persistence := by
  simp only [State.plan, refs]
  cases p with
  | a => exact ⟨rfl, fun q other => by cases q with
      | a => exact absurd rfl other
      | b => rfl, rfl, rfl⟩
  | b => exact ⟨rfl, fun q other => by cases q with
      | a => rfl
      | b => exact absurd rfl other, rfl, rfl⟩

/-- A state of which three parts are given is the old one with its own three parts. -/
theorem State.eq_written {s t : State} {refs : ReferenceUnit} {engine : Engine} {queue : ReportQueue}
    (written : t = { s with refs := refs, engine := engine, queue := queue }) :
    t = { s with refs := t.refs, engine := t.engine, queue := t.queue } := by rw [written]

/-- What an accepted LOAD CODE PLAN leaves: the plan stored, the pass and the reports of the grades it changes. -/
theorem State.handOnGrades_setPlan {s t : State} {p : PlanName} {x : CodePlan}
    (event : s.handOnGrades (s.setPlan p x) = t) :
    t = { s with
      refs := (s.setPlan p x).refs
      engine := { s.engine with passPending := s.engine.passPending || !(gradeReports s t).isEmpty }
      queue := (s.postAll (gradeReports s t)).queue } :=
  State.handOnGrades_of_refs (s.setPlan_written p x)
    (.of_cfg (s.setPlan_written p x) (s.setPlan_keepsHardware p x).cfg) event

/-! ## SET GRADE OVERRIDE -/

section
variable {s : State} {r : RefNo} {value : Nat}

/-- In MAINTENANCE a body that names a reference comes to the check of its value. -/
theorem serveSetGradeOverride_of_ref (maintenance : s.port.mode = .maintenance) (byte : value ≤ 255) :
    serveSetGradeOverride (put8 r.val ++ put8 value) s =
      if value != 255 && !gradeValid value then refuse s .badValue []
      else
        let t := s.handOnGrades (s.setOverride r (overrideOf value))
        accept t false (putOption8 (overrideOf value) ++ put8 (t.effectiveGrade r)) := by
  have notNormal : ¬ s.port.mode = .normal := by simp [maintenance]
  have first : byteAt (put8 r.val ++ put8 value) 0 = r.val := byteAt_put8_append (by omega) _
  have second : byteAt (put8 r.val ++ put8 value) 1 = value :=
    (byteAt_put8_append_succ r.val 0 _).trans (byteAt_put8 byte)
  have named : byteAt (put8 r.val ++ put8 value) 0 < 40 := by rw [first]; exact r.isLt
  have reference : (⟨byteAt (put8 r.val ++ put8 value) 0, named⟩ : RefNo) = r := Fin.ext first
  have size : (put8 r.val ++ put8 value).length = 2 := rfl
  rw [serveSetGradeOverride, if_neg (not_not.2 size), if_neg notNormal, dif_pos named, reference, second]
  rfl

theorem serveSetGradeOverride_of_outside {n : Nat} (maintenance : s.port.mode = .maintenance) (least : 40 ≤ n)
    (most : n ≤ 255) : serveSetGradeOverride (put8 n ++ put8 value) s = refuse s .badIndex [] := by
  have notNormal : ¬ s.port.mode = .normal := by simp [maintenance]
  have outside : ¬ byteAt (put8 n ++ put8 value) 0 < 40 := by
    rw [byteAt_put8_append most]
    omega
  have size : (put8 n ++ put8 value).length = 2 := rfl
  rw [serveSetGradeOverride, if_neg (not_not.2 size), if_neg notNormal, dif_neg outside]

theorem putOption8_overrideOf (value : Nat) : putOption8 (overrideOf value) = put8 value := by
  by_cases clear : value = 255
  · rw [clear]
    rfl
  · rw [overrideOf, if_neg clear]
    rfl

/-- What an accepted SET GRADE OVERRIDE leaves: the override written, the pass and the reports of the grades it
changes. -/
theorem State.handOnGrades_setOverride {t : State} {g : Option Nat} (event : s.handOnGrades (s.setOverride r g) = t) :
    t = { s with
      refs := (s.setOverride r g).refs
      engine := { s.engine with passPending := s.engine.passPending || !(gradeReports s t).isEmpty }
      queue := (s.postAll (gradeReports s t)).queue } :=
  State.handOnGrades_of_refs rfl (s.setRun_sameMasks r _) event

end

/-- Settles O40: an accepted request by what its one write and the grades handed on leave, a refused one by the first
check that it fails. -/
theorem codePlansAndOverridesAreWritten : Obligations.CodePlansAndOverridesAreWritten := by
  refine ⟨?_, fun s f r value asks maintenance body => ⟨fun valid => ?_, fun invalid byte => ?_⟩,
    fun s f n value asks maintenance body least most => ?_⟩
  · intro s f plan receive send asks receives sends body named grades codes
    have size := length_loadPlanBody (plan := plan) receives sends
    have bad := loadCodePlanBadValue_iff named receives sends grades codes
    rw [execLoadCodePlan_of_asks asks, show f.body = loadPlanBody plan receive send from body]
    refine ⟨fun known valid coded => ?_, fun wrong => ?_⟩
    · have good : ¬ loadCodePlanBadValue (loadPlanBody plan receive send) = true := by
        rw [bad]
        rintro (outside | ⟨g, inside, invalid⟩ | ⟨c, inside, beyond⟩)
        · omega
        · rw [valid g inside] at invalid
          cases invalid
        · exact absurd (coded c inside) (Nat.not_le_of_lt beyond)
      have name : PlanName.ofCode (byteAt (loadPlanBody plan receive send) 0) = some (if plan = 0 then .a else .b) := by
        rw [byteAt_loadPlanBody_zero named, PlanName.ofCode_of_le known]
      obtain ⟨t, event⟩ : ∃ t, s.handOnGrades (s.setPlan (if plan = 0 then .a else .b)
        (codePlanOf (loadPlanBody plan receive send))) = t := ⟨_, rfl⟩
      have left := State.handOnGrades_setPlan event
      obtain ⟨stored, other, records, persistence⟩ := State.refs_of_setPlan (congrArg State.refs left :)
      refine ⟨t, ?_, ?_, ?_, ?_, (congrArg State.engine left :), (congrArg State.queue left :), records, persistence,
        State.eq_written left⟩
      · rw [serveLoadCodePlan_of_good size good name, event, State.sendReply_accept]
      · rw [stored]
        exact receive_codePlanOf receives grades
      · rw [stored]
        exact send_codePlanOf receives sends coded
      · exact other _ (by split <;> decide)
    · rw [serveLoadCodePlan_of_bad size (bad.2 wrong), State.sendReply_refuse]
  · have byte : value ≤ 255 := valid.elim gradeValid_le Nat.le_of_eq
    have good : ¬ (value != 255 && !gradeValid value) = true := by
      rcases valid with valid | clear
      · simp [valid]
      · simp [clear]
    obtain ⟨t, event⟩ : ∃ t, s.handOnGrades (s.setOverride r (overrideOf value)) = t := ⟨_, rfl⟩
    have left := State.handOnGrades_setOverride event
    have refs : t.refs = (s.setOverride r (overrideOf value)).refs := (congrArg State.refs left :)
    refine ⟨t, ?_, ?_, ?_, ?_, (congrArg State.engine left :), (congrArg State.queue left :), State.eq_written left⟩
    · rw [execSetGradeOverride_of_asks asks, body, serveSetGradeOverride_of_ref maintenance byte, if_neg good, event,
        State.sendReply_accept, putOption8_overrideOf]
    · rw [State.ref_congr refs]
      exact State.ref_setRun_same r _ s
    · intro q other
      rw [State.ref_congr refs]
      exact ⟨State.ref_setRun_of_ne _ s other, (congrArg (State.chan · q) left :)⟩
    · rw [refs]
      rfl
  · have bad : (value != 255 && !gradeValid value) = true := by simp [invalid, Nat.ne_of_lt byte]
    rw [execSetGradeOverride_of_asks asks, body, serveSetGradeOverride_of_ref maintenance byte.le, if_pos bad,
      State.sendReply_refuse]
  · rw [execSetGradeOverride_of_asks asks, body, serveSetGradeOverride_of_outside maintenance least most,
      State.sendReply_refuse]

end Sys2Proof.Machine

/-!
SUPPORT. SET MODE and RESET.
-/

namespace Sys2Proof.Machine

open Sys2Proof

/-! ## What SET MODE leaves -/

theorem State.storeMode_sameTables (m : Mode) (s : State) : SameTables s (s.storeMode m) :=
  SameTables.trans (t := { s with port := { s.port with mode := m } }) ⟨rfl, rfl, rfl⟩ (State.post_sameTables _ _)

/-- Posting a report writes the Report Queue alone (R145). -/
theorem State.post_written (rep : Report) (s : State) : s.post rep = { s with queue := (s.post rep).queue } := by
  unfold State.post
  split <;> rfl

theorem State.storeMode_eq (m : Mode) (s : State) :
    s.storeMode m = { s with port := { s.port with mode := m }, queue := (s.post (.modeChanged m)).queue } := by
  have masks : SameMasks s { s with port := { s.port with mode := m } } := ⟨rfl, fun _ => rfl, fun _ => rfl⟩
  calc
    s.storeMode m = { s with
        port := { s.port with mode := m }
        queue := (s.storeMode m).queue } := State.post_written _ _
    _ = _ := by rw [State.storeMode, masks.post_queue rfl]

theorem State.changeMode_same (s : State) : s.changeMode s.port.mode = s := if_pos rfl

theorem State.changeMode_toMaintenance {s : State} (normal : s.port.mode = .normal) :
    s.changeMode .maintenance = s.storeMode .maintenance := by
  rw [State.changeMode, if_neg (by rw [normal]; decide)]

theorem State.changeMode_toNormal {s : State} (maintenance : s.port.mode = .maintenance) :
    s.changeMode .normal = (s.storeMode .normal).handOnGrades (s.storeMode .normal).clearOverrides := by
  rw [State.changeMode, if_neg (by rw [maintenance]; decide)]
  rfl

/-- A state of which four parts are given is the old one with its own four parts. -/
theorem State.eq_written_mode {s t : State} {port : Port} {records : Vector RefRecord 40} {engine : Engine}
    {queue : ReportQueue}
    (written : t = { s with
      port := port
      refs := { s.refs with records := records }
      engine := engine
      queue := queue }) :
    t = { s with
      port := t.port
      refs := { s.refs with records := t.refs.records }
      engine := t.engine
      queue := t.queue } := by rw [written]

/-- What the change to NORMAL leaves: the mode, every override absent, the pass, and MODE_CHANGED before the reports of
the grades it changes (R71). -/
theorem State.handOnGrades_clearOverrides {s t : State}
    (event : (s.storeMode .normal).handOnGrades (s.storeMode .normal).clearOverrides = t) :
    t = { s with
      port := { s.port with mode := .normal }
      refs := s.clearOverrides.refs
      engine := { s.engine with passPending := s.engine.passPending || !(gradeReports s t).isEmpty }
      queue := (s.postAll (.modeChanged .normal :: gradeReports s t)).queue } := by
  have tables := s.storeMode_sameTables .normal
  have masks : SameMasks (s.storeMode .normal) (s.storeMode .normal).clearOverrides :=
    .of_cfg rfl fun r => by rw [State.ref_clearOverrides]
  have queue : ((s.storeMode .normal).postAll (gradeReports s t)).queue
      = ((s.post (.modeChanged .normal)).postAll (gradeReports s t)).queue := by
    refine SameMasks.postAll_queue (tables.sameMasks.symm.trans (s.post_sameMasks _)).symm ?_ _
    rw [State.storeMode_eq]
  have left := State.handOnGrades_of_refs rfl masks event
  rw [tables.gradeReports, queue] at left
  rw [State.storeMode_eq] at left
  exact left

/-! ## SET MODE and RESET -/

theorem execSetMode_of_asks {s : State} {f : Frame} (asks : s.asks 20 f) :
    exec .setMode s = .next (State.sendReply f (serveSetMode f.body s)) := by
  rw [exec, execSetMode, takeRequest_of_asks _ _ s 20 f asks rfl]

theorem execReset_of_asks {s : State} {f : Frame} (asks : s.asks 22 f) :
    exec .reset s = .next (State.sendReply f (serveReset f.body s)) := by
  rw [exec, execReset, takeRequest_of_asks _ _ s 22 f asks rfl]

theorem serveSetMode_of_mode (m : Mode) (s : State) :
    serveSetMode (put8 m.code) s = accept (s.changeMode m) false (put8 m.code) := by
  cases m <;> rfl

theorem Mode.ofCode_of_outside {n : Nat} (h : 1 < n) : Mode.ofCode n = none := by
  match n with
  | _ + 2 => rfl

theorem serveSetMode_of_outside {n : Nat} (least : 1 < n) (most : n ≤ 255) (s : State) :
    serveSetMode (put8 n) s = refuse s .badValue [] := by
  rw [serveSetMode, if_neg (not_not.2 (length_put8 n)), byteAt_put8 most, Mode.ofCode_of_outside least]

/-- Settles O50, by the mode asked for and the mode that stands. -/
theorem setModeAndReset : Obligations.SetModeAndReset := by
  refine ⟨fun s f n asks body most => ⟨fun outside => ?_, fun same => ?_, fun one normal => ?_,
    fun zero maintenance => ?_⟩, fun s f asks body => ⟨?_, _, rfl, ?_⟩⟩
  · rw [execSetMode_of_asks asks, body, serveSetMode_of_outside outside most, State.sendReply_refuse]
  · rw [execSetMode_of_asks asks, body, same, serveSetMode_of_mode, State.changeMode_same, State.sendReply_accept]
  · have code : f.body = put8 Mode.maintenance.code := by rw [body, one]; rfl
    rw [execSetMode_of_asks asks, code, serveSetMode_of_mode, State.changeMode_toMaintenance normal,
      State.sendReply_accept]
    rfl
  · have code : f.body = put8 Mode.normal.code := by rw [body, zero]; rfl
    obtain ⟨t, event⟩ : ∃ t, (s.storeMode .normal).handOnGrades (s.storeMode .normal).clearOverrides = t := ⟨_, rfl⟩
    have left := State.handOnGrades_clearOverrides event
    have refs : t.refs = s.clearOverrides.refs := (congrArg State.refs left :)
    refine ⟨t, ?_, (congrArg State.port left :), fun r => ?_, (congrArg State.queue left :),
      (congrArg State.engine left :), ?_⟩
    · rw [execSetMode_of_asks asks, code, serveSetMode_of_mode, State.changeMode_toNormal maintenance, event,
        State.sendReply_accept]
      rfl
    · rw [State.ref_congr refs, State.ref_clearOverrides]
    · exact State.eq_written_mode left
  · rw [execReset_of_asks asks, body]
    rfl
  · obtain ⟨-, -, -, type⟩ := asks
    simp [replyTo, type]

end Sys2Proof.Machine

/-!
SUPPORT. Events of one shelf: the shelf they leave, the reports they post, whether they leave a pass pending, and all
else as it was, followed from operation to operation.
-/

namespace Sys2Proof.Machine

open Sys2Proof

/-! ## What one event after another leaves as it was -/

theorem KeepsOtherShelves.trans {h : ShelfNo} {s t u : State} (a : KeepsOtherShelves h s t)
    (b : KeepsOtherShelves h t u) : KeepsOtherShelves h s u := fun g other => (b g other).trans (a g other)

theorem ShelfMove.keepsSettings {s t : State} (a : ShelfMove s t) : KeepsSettings s t := (a.refMove 0).keepsSettings

theorem ShelfMove.onlyShelf {h : ShelfNo} {s t : State} (a : ShelfMove s t) (others : KeepsOtherShelves h s t) :
    OnlyShelf h s t := ⟨a.keepsSettings, ⟨a.qh, a.port⟩, a.monitor, a.refs, others⟩

theorem OnlyShelf.trans {h : ShelfNo} {s t u : State} (a : OnlyShelf h s t) (b : OnlyShelf h t u) :
    OnlyShelf h s u := by
  obtain ⟨settings, ⟨qh, port⟩, monitor, refs, others⟩ := a
  obtain ⟨settings', ⟨qh', port'⟩, monitor', refs', others'⟩ := b
  exact ⟨KeepsSettings.trans settings settings', ⟨qh'.trans qh, port'.trans port⟩, monitor'.trans monitor,
    refs'.trans refs, KeepsOtherShelves.trans others others'⟩

theorem State.setShelf_keepsOtherShelves (h : ShelfNo) (x : Shelf) (s : State) :
    KeepsOtherShelves h s (s.setShelf h x) := fun _ other => by rw [State.shelf_setShelf, if_neg other.symm]

/-- A shelf record written with its configuration and hold flag as they were. -/
theorem State.setShelf_onlyShelf {h : ShelfNo} {x : Shelf} {s : State} (cfg : x.cfg = (s.shelf h).cfg)
    (hold : x.hold = (s.shelf h).hold) : OnlyShelf h s (s.setShelf h x) := by
  refine ⟨⟨rfl, rfl, rfl, rfl, rfl, rfl, rfl, rfl, rfl, rfl, rfl, rfl, fun _ => rfl, fun g => ?_, fun g => ?_, rfl, rfl,
    rfl, rfl⟩, ⟨rfl, rfl⟩, rfl, rfl, s.setShelf_keepsOtherShelves h x⟩
  · rw [State.shelf_setShelf]
    split
    · rename_i same; rw [cfg, same]
    · rfl
  · rw [State.shelf_setShelf]
    split
    · rename_i same; rw [hold, same]
    · rfl

/-! ## An event of one shelf, step by step -/

/-- What leads from s to t leaves x in shelf h, posts exactly these reports in this order, leaves a pass pending where
the flag says so, and changes nothing else. -/
structure ShelfStep (h : ShelfNo) (x : Shelf) (pass : Bool) (reps : List Report) (s t : State) : Prop where
  shelf : t.shelf h = x
  posts : Posts reps s t
  passPending : t.engine.passPending = (s.engine.passPending || pass)
  only : OnlyShelf h s t

theorem ShelfStep.refl {h : ShelfNo} {x : Shelf} {s : State} (shelf : s.shelf h = x) : ShelfStep h x false [] s s where
  shelf := shelf
  posts := (SameMasks.refl s).posts_nil rfl
  passPending := (Bool.or_false _).symm
  only := (ShelfMove.refl s).onlyShelf fun _ _ => rfl

/-- The flag and the reports of a step, said in another way. -/
theorem ShelfStep.congr {h : ShelfNo} {x y : Shelf} {p q : Bool} {a b : List Report} {s t : State}
    (step : ShelfStep h x p a s t) (shelf : x = y) (pass : p = q) (reports : a = b) : ShelfStep h y q b s t := by
  rwa [← shelf, ← pass, ← reports]

section
variable {h : ShelfNo} {x : Shelf} {p : Bool} {reps : List Report} {s t : State}

theorem ShelfStep.now (a : ShelfStep h x p reps s t) : t.now = s.now := a.posts.masks.now

theorem ShelfStep.refs (a : ShelfStep h x p reps s t) : t.refs = s.refs := by
  obtain ⟨-, -, -, refs, -⟩ := a.only
  exact refs

theorem ShelfStep.others (a : ShelfStep h x p reps s t) : KeepsOtherShelves h s t := by
  obtain ⟨-, -, -, -, others⟩ := a.only
  exact others

theorem ShelfStep.settings (a : ShelfStep h x p reps s t) : KeepsSettings s t := by
  obtain ⟨settings, -⟩ := a.only
  exact settings

theorem ShelfStep.cfgs (a : ShelfStep h x p reps s t) (g : ShelfNo) : (t.shelf g).cfg = (s.shelf g).cfg := by
  obtain ⟨-, -, -, -, -, -, -, -, -, -, -, -, -, cfg, -⟩ := a.settings
  exact cfg g

theorem ShelfStep.cfg (a : ShelfStep h x p reps s t) : x.cfg = (s.shelf h).cfg := a.shelf ▸ a.cfgs h

theorem ShelfStep.trans {y : Shelf} {q : Bool} {more : List Report} {u : State} (a : ShelfStep h x p reps s t)
    (b : ShelfStep h y q more t u) : ShelfStep h y (p || q) (reps ++ more) s u where
  shelf := b.shelf
  posts := a.posts.trans b.posts
  passPending := by rw [b.passPending, a.passPending, Bool.or_assoc]
  only := OnlyShelf.trans a.only b.only

theorem ShelfStep.post (a : ShelfStep h x p reps s t) (rep : Report) :
    ShelfStep h x p (reps ++ [rep]) s (t.post rep) where
  shelf := by rw [State.shelf_post, a.shelf]
  posts := a.posts.trans (t.post_posts rep)
  passPending := by rw [State.post_engine, a.passPending]
  only := OnlyShelf.trans a.only ((t.post_shelfMove rep).onlyShelf fun g _ => t.shelf_post g rep)

theorem ShelfStep.leavePassPending (a : ShelfStep h x p reps s t) : ShelfStep h x true reps s t.leavePassPending where
  shelf := a.shelf
  posts := ⟨a.posts.masks.trans t.leavePassPending_shelfMove.sameMasks, a.posts.queue⟩
  passPending := (Bool.or_true _).symm
  only := OnlyShelf.trans a.only (t.leavePassPending_shelfMove.onlyShelf fun _ _ => rfl)

theorem ShelfStep.setShelf (a : ShelfStep h x p reps s t) {y : Shelf} (cfg : y.cfg = x.cfg) (hold : y.hold = x.hold) :
    ShelfStep h y p reps s (t.setShelf h y) :=
  have only : OnlyShelf h t (t.setShelf h y) :=
    State.setShelf_onlyShelf (cfg.trans (by rw [a.shelf])) (hold.trans (by rw [a.shelf]))
  have settings : KeepsSettings t (t.setShelf h y) := by
    obtain ⟨settings, -⟩ := only
    exact settings
  { shelf := t.shelf_setShelf_same h y
    posts := ⟨a.posts.masks.trans (KeepsSettings.sameMasks settings), a.posts.queue⟩
    passPending := a.passPending
    only := OnlyShelf.trans a.only only }

/-! ## The operations on a shelf -/

theorem ShelfStep.setAdmission (a : ShelfStep h x p reps s t) (admission : Admission) :
    ShelfStep h { x with admission := admission } true reps s (t.setAdmission h admission) := by
  have written : t.setAdmission h admission = (t.setShelf h { x with admission := admission }).leavePassPending := by
    rw [State.setAdmission, a.shelf]
  exact written ▸ (a.setShelf (y := { x with admission := admission }) rfl rfl).leavePassPending

theorem ShelfStep.mapCard {c : JoinedCard} (a : ShelfStep h (x.withCard c) p reps s t) (f : JoinedCard → JoinedCard) :
    ShelfStep h (x.withCard (f c)) p reps s (t.mapCard h f) := by
  rw [State.mapCard, a.shelf]
  exact a.setShelf rfl rfl

theorem ShelfStep.setTiming (a : ShelfStep h x p reps s t) (timing : Timing) :
    ShelfStep h (x.withTiming timing) true reps s (t.setTiming h timing) := by
  have moved := t.setTiming_shelfMove h timing
  refine ⟨?_, ⟨a.posts.masks.trans moved.sameMasks, ?_⟩, (Bool.or_true _).symm,
    OnlyShelf.trans a.only (moved.onlyShelf fun g other => ?_)⟩
  · rw [State.shelf_setTiming, if_pos rfl, a.shelf]
  · exact ((t.setTiming_posts h timing).queue).trans a.posts.queue
  · rw [State.shelf_setTiming, if_neg other.symm]

theorem ShelfStep.moveShelf (a : ShelfStep h x p reps s t) (timing : Timing) :
    ShelfStep h (x.withTiming timing) true (reps ++ [.shelfState h timing.name]) s (t.moveShelf h timing) :=
  (a.setTiming timing).post _

/-- Where a shelf falls back to rests on office time and its configuration, which no step writes. -/
theorem ShelfStep.fallbackOf (a : ShelfStep h x p reps s t) (timing : Timing) :
    fallbackOf t h timing = Machine.fallbackOf s h timing := fallbackOf_congr_cfg a.now (a.cfgs h) timing

theorem ShelfStep.leaveLocked {r : RefNo} {since : Nat} (a : ShelfStep h x p reps s t)
    (timing : x.timing = some (.locked r since)) :
    ShelfStep h (x.withTiming (Machine.fallbackOf s h (.locked r since))) true
      (reps ++ [.shelfState h (Machine.fallbackOf s h (.locked r since)).name]) s (t.leaveLocked h) := by
  have moved : t.leaveLocked h = t.moveShelf h (Machine.fallbackOf s h (.locked r since)) := by
    simp only [State.leaveLocked, a.shelf, timing, State.qualifyFallback_eq t h r, a.fallbackOf]
  exact moved ▸ a.moveShelf _

theorem ShelfStep.leaveAcquire {r : RefNo} {o : Origin} {expiry : SecondTimer} (a : ShelfStep h x p reps s t)
    (timing : x.timing = some (.acquire r o expiry)) (rep : RefNo → Report) :
    ShelfStep h (x.withTiming (Machine.fallbackOf s h (.acquire r o expiry))) true
      (reps ++ [rep r] ++ [.shelfState h (Machine.fallbackOf s h (.acquire r o expiry)).name]) s
      (t.leaveAcquire h rep) := by
  have moved : t.leaveAcquire h rep = ((t.setTiming h (Machine.fallbackOf s h (.acquire r o expiry))).post (rep r)).post
      (.shelfState h (Machine.fallbackOf s h (.acquire r o expiry)).name) := by
    simp only [State.leaveAcquire, a.shelf, timing, State.acquireFallback_eq t h r o expiry, a.fallbackOf]
  exact moved ▸ ((a.setTiming _).post _).post _

theorem ShelfStep.markRefused (a : ShelfStep h x p reps s t) (list : x.candidates = (s.shelf h).candidates)
    (r : RefNo) : ShelfStep h { x with candidates := markedEntries s h r } p reps s (t.markRefused h r) := by
  have marked : x.candidates.map (t.markEntry x.cfg.refusalPeriod r) = markedEntries s h r := by
    rw [list, a.cfg]
    refine List.map_congr_left fun e _ => ?_
    simp only [State.markEntry, capTime, Config.topTime, a.now]
  have written : t.markRefused h r = t.setShelf h { x with candidates := markedEntries s h r } := by
    rw [State.markRefused, a.shelf, marked]
  exact written ▸ a.setShelf rfl rfl

theorem ShelfStep.ageHoldover {c : JoinedCard} (a : ShelfStep h (x.withCard c) p reps s t) :
    ShelfStep h (x.withCard { c with timing := c.timing.age }) true (reps ++ [.holdoverAged h]) s (t.ageHoldover h) :=
  ((a.mapCard fun c => { c with timing := c.timing.age }).leavePassPending).post _

theorem ShelfStep.vacate (a : ShelfStep h x p reps s t) (rep : Report) :
    ShelfStep h { x with admission := .vacant } true (reps ++ [rep]) s (t.vacate h rep) :=
  (a.setAdmission .vacant).post rep

/-- A shelf that becomes REJECTED leaves a pass pending but where it was REJECTED before (R94). -/
theorem ShelfStep.reject (a : ShelfStep h x p reps s t) (reason : RejectReason) :
    ShelfStep h { x with admission := .rejected reason } (p || decide (x.admission.code ≠ 1))
      (reps ++ [.cardRejected h reason]) s (t.reject h reason) := by
  have written : ShelfStep h { x with admission := .rejected reason } p reps s
      (t.setShelf h { x with admission := .rejected reason }) := a.setShelf rfl rfl
  rw [State.reject, a.shelf]
  refine ShelfStep.post ?_ _
  rcases x.admission with _ | _ | _
  · exact written.leavePassPending.congr rfl (Bool.or_true _).symm rfl
  · exact written.congr rfl (Bool.or_false _).symm rfl
  · exact written.leavePassPending.congr rfl (Bool.or_true _).symm rfl

/-! ## Grades, before and after -/

/-- Traced grades read of the shelves the configuration and the timing state alone (R92). -/
theorem State.tracedFrom_of_timings (refs : t.refs = s.refs) (cfg : ∀ g, (t.shelf g).cfg = (s.shelf g).cfg)
    (timing : ∀ g, (t.shelf g).timing = (s.shelf g).timing) (fuel : Nat) (g : ShelfNo) :
    t.tracedFrom fuel g = s.tracedFrom fuel g := by
  induction fuel generalizing g with
  | zero => rfl
  | succ n ih => simp only [State.tracedFrom, timing, cfg, State.ref_congr refs, State.localGrade_congr refs, ih]

theorem State.effectiveGrade_of_timings (refs : t.refs = s.refs) (cfg : ∀ g, (t.shelf g).cfg = (s.shelf g).cfg)
    (timing : ∀ g, (t.shelf g).timing = (s.shelf g).timing) (r : RefNo) :
    t.effectiveGrade r = s.effectiveGrade r := by
  simp only [State.effectiveGrade, State.tracedGrade, State.ref_congr refs, State.localGrade_congr refs,
    State.tracedFrom_of_timings refs cfg timing]

theorem ShelfStep.timings (a : ShelfStep h x p reps s t) (timing : x.timing = (s.shelf h).timing) (g : ShelfNo) :
    (t.shelf g).timing = (s.shelf g).timing := by
  by_cases same : g = h
  · rw [same, a.shelf, timing]
  · rw [a.others g same]

/-- A step that leaves the timing state as it was changes no grade. -/
theorem ShelfStep.tracedGrade (a : ShelfStep h x p reps s t) (timing : x.timing = (s.shelf h).timing) (g : ShelfNo) :
    t.tracedGrade g = s.tracedGrade g := State.tracedFrom_of_timings a.refs a.cfgs (a.timings timing) _ g

theorem ShelfStep.effectiveGrade (a : ShelfStep h x p reps s t) (timing : x.timing = (s.shelf h).timing) (r : RefNo) :
    t.effectiveGrade r = s.effectiveGrade r := State.effectiveGrade_of_timings a.refs a.cfgs (a.timings timing) r

theorem State.handOnGrades_onlyShelf (h : ShelfNo) (before s : State) : OnlyShelf h s (before.handOnGrades s) :=
  (before.handOnGrades_shelfMove s).onlyShelf fun g _ => before.handOnGrades_shelf s g

/-- The changes of grade of an event of one shelf handed on, counted from a state of the same grades (R69, R94). -/
theorem ShelfStep.handOnGrades {before u : State} (a : ShelfStep h x p reps s t)
    (grades : ∀ r, before.effectiveGrade r = s.effectiveGrade r) (event : before.handOnGrades t = u) :
    ShelfStep h x (p || !(gradeReports s u).isEmpty) (reps ++ gradeReports s u) s u := by
  have reports : gradeReports before t = gradeReports s u := by
    rw [← event, ← gradeReports_of_grades grades, gradeReports_handOnGrades]
  rw [← reports, ← event]
  exact a.trans ⟨by rw [State.handOnGrades_shelf, a.shelf], before.handOnGrades_posts t,
    before.handOnGrades_passPending t, before.handOnGrades_onlyShelf h t⟩

theorem ShelfStep.regrading {f : State → State} {u : State} (a : ShelfStep h x p reps s (f s))
    (event : State.regrading f s = u) :
    ShelfStep h x (p || !(gradeReports s u).isEmpty) (reps ++ gradeReports s u) s u :=
  a.handOnGrades (fun _ => rfl) event

end

/-- Whether a shelf that becomes y leaves a pass pending by itself: its admission or its timing state changes (R94). -/
def Shelf.moved (x y : Shelf) : Bool :=
  decide (y.admission.code ≠ x.admission.code) || decide (y.timing ≠ x.timing)

theorem Shelf.moved_self (x : Shelf) : x.moved x = false := by simp [Shelf.moved]

theorem Shelf.moved_of_code {x y : Shelf} (code : y.admission.code ≠ x.admission.code) : x.moved y = true := by
  simp [Shelf.moved, code]

theorem Shelf.moved_of_timing {x y : Shelf} (timing : y.timing ≠ x.timing) : x.moved y = true := by
  simp [Shelf.moved, timing]

theorem ShelfStep.passAfter {h : ShelfNo} {x : Shelf} {reps : List Report} {s u : State}
    (a : ShelfStep h x ((s.shelf h).moved x || !(gradeReports s u).isEmpty) reps s u) : PassAfter h s u := by
  rw [PassAfter, a.passPending, a.shelf, Shelf.moved, Bool.or_assoc, Bool.or_assoc, Bool.or_assoc]

end Sys2Proof.Machine

/-!
SUPPORT. Card reports: what taking one comes to by the tables of R78 to R80, R84, R87 and R88, and its delivery.
-/

namespace Sys2Proof.Machine

open Sys2Proof

/-! ## Shelves in another timing state -/

section
variable {x : Shelf} {c : JoinedCard}

theorem Shelf.timing_of_joined (joined : x.admission = .joined c) : x.timing = some c.timing := by
  simp only [Shelf.timing, Shelf.card, joined, Option.map_some]

theorem Shelf.withTiming_of_joined (joined : x.admission = .joined c) (t : Timing) :
    x.withTiming t = x.withCard { c with timing := t } := by
  simp only [Shelf.withTiming, joined, Shelf.withCard]

theorem Shelf.timing_withTiming {t : Timing} (present : x.timing = some t) (u : Timing) :
    (x.withTiming u).timing = some u := by
  rcases admission : x.admission with _ | _ | c
  case joined => rw [Shelf.withTiming_of_joined admission, Shelf.withCard_timing]
  all_goals simp [Shelf.timing, Shelf.card, admission] at present

theorem Shelf.withTiming_candidates (x : Shelf) (list : List Candidate) (t : Timing) :
    { x with candidates := list }.withTiming t = { x.withTiming t with candidates := list } := by
  obtain ⟨cfg, candidates, admission, silence, hold⟩ := x
  cases admission <;> rfl

theorem Shelf.withTiming_silence (x : Shelf) (silence : Option SecondTimer) (t : Timing) :
    { x with silence := silence }.withTiming t = { x.withTiming t with silence := silence } := by
  obtain ⟨cfg, candidates, admission, silence, hold⟩ := x
  cases admission <;> rfl

theorem Shelf.moved_withTiming {t u : Timing} (present : x.timing = some t) (other : u ≠ t) :
    x.moved (x.withTiming u) = true := by
  refine Shelf.moved_of_timing ?_
  rw [Shelf.timing_withTiming present, present]
  exact fun same => other (Option.some.inj same)

end

/-- LOCKED falls back to another timing state (R89). -/
theorem fallbackOf_locked_ne (s : State) (h : ShelfNo) (r q : RefNo) (since since' : Nat) :
    fallbackOf s h (.locked r since) ≠ .locked q since' := by
  rw [fallbackOf]
  split_ifs <;> simp

/-! ## What a card report comes to -/

/-- An event takes shelf h to an outcome of the tables: its shelf, its reports, and a pass left pending where the
admission or the timing state changes (R94). -/
def Takes (h : ShelfNo) (outcome : Shelf × List Report) (s t : State) : Prop :=
  ShelfStep h outcome.1 ((s.shelf h).moved outcome.1) outcome.2 s t

section
variable {h : ShelfNo} {s : State} {c : JoinedCard}

theorem Takes.unchanged (h : ShelfNo) (s : State) : Takes h (s.shelf h, []) s s :=
  (ShelfStep.refl rfl).congr rfl (Shelf.moved_self _).symm rfl

theorem State.post_takes (h : ShelfNo) (rep : Report) (s : State) : Takes h (s.shelf h, [rep]) s (s.post rep) :=
  ((ShelfStep.refl rfl).post rep).congr rfl (Shelf.moved_self _).symm rfl

theorem State.reject_takes (h : ShelfNo) (reason : RejectReason) (s : State) :
    Takes h ({ s.shelf h with admission := .rejected reason }, [.cardRejected h reason]) s (s.reject h reason) := by
  refine ((ShelfStep.refl rfl).reject reason).congr rfl ?_ rfl
  rcases admission : (s.shelf h).admission with _ | _ | _ <;>
    simp [Shelf.moved, Shelf.timing, Shelf.card, Admission.code, admission]

theorem State.vacate_takes (rep : Report) (present : (s.shelf h).admission ≠ .vacant) :
    Takes h ({ s.shelf h with admission := .vacant }, [rep]) s (s.vacate h rep) := by
  refine ((ShelfStep.refl rfl).vacate rep).congr rfl (Shelf.moved_of_code ?_).symm rfl
  rcases admission : (s.shelf h).admission with _ | _ | _
  · exact absurd admission present
  all_goals simp [Admission.code]

/-- The admission test by the table of R78. -/
theorem State.admitCard_takes (apart : (s.shelf h).isJoined = false) (cls : CardClass) :
    Takes h (cardOutcome s h (.announce cls)) s (s.admitCard h cls) := by
  have outcome : cardOutcome s h (.announce cls)
      = if !(s.shelf h).cfg.enabled then
          ({ s.shelf h with admission := .rejected .disabled }, [.cardRejected h .disabled])
        else if !(s.shelf h).cfg.accepts cls then
          ({ s.shelf h with admission := .rejected .cardClass }, [.cardRejected h .cardClass])
        else
          ({ s.shelf h with admission := .joined (.fresh cls) }, [.cardJoined h cls, .shelfState h .freeRun]) := by
    rcases admission : (s.shelf h).admission with _ | _ | _
    case joined => simp [Shelf.isJoined, Shelf.card, admission] at apart
    all_goals
      simp only [cardOutcome, admission]
      rfl
  rw [outcome, State.admitCard]
  split_ifs
  · exact s.reject_takes h .disabled
  · exact s.reject_takes h .cardClass
  · refine ((((ShelfStep.refl rfl).setAdmission _).post _).post _).congr rfl (Shelf.moved_of_code ?_).symm rfl
    rcases admission : (s.shelf h).admission with _ | _ | _
    case joined => simp [Shelf.isJoined, Shelf.card, admission] at apart
    all_goals simp [Admission.code]

/-- A card restart by the table of R79. -/
theorem State.restartCard_takes (joined : (s.shelf h).admission = .joined c) (cls : CardClass) :
    Takes h (cardOutcome s h (.announce cls)) s (s.restartCard h cls) := by
  have timing := Shelf.timing_of_joined joined
  have outcome : cardOutcome s h (.announce cls)
      = if (s.shelf h).cfg.accepts cls then
          ((s.shelf h).withCard { c with cardClass := cls, timing := .freeRun },
            .cardRestart h cls :: if c.timing.name = .freeRun then [] else [.shelfState h .freeRun])
        else ({ s.shelf h with admission := .rejected .cardClass }, [.cardRejected h .cardClass]) := by
    simp only [cardOutcome, joined]
    rfl
  have restarted : ShelfStep h ((s.shelf h).withCard { c with cardClass := cls }) false [.cardRestart h cls] s
      ((s.mapCard h fun c => { c with cardClass := cls }).post (.cardRestart h cls)) :=
    ((ShelfStep.refl (Shelf.withCard_eq joined).symm).mapCard fun c => { c with cardClass := cls }).post _
  rw [outcome, State.restartCard, timing]
  rcases (s.shelf h).cfg.accepts cls with _ | _
  · exact s.reject_takes h .cardClass
  · have moves (other : c.timing ≠ .freeRun) :
        (s.shelf h).moved ((s.shelf h).withCard { c with cardClass := cls, timing := .freeRun }) = true :=
      Shelf.moved_of_timing (by rw [timing]; exact fun same => other (Option.some.inj same).symm)
    rcases state : c.timing with _ | _ | _ | _
    · refine restarted.congr (by rw [← state]; rfl) ?_ rfl
      simp [Shelf.moved, Admission.code, joined, timing, state]
    all_goals exact (restarted.moveShelf .freeRun).congr rfl (moves (by simp [state])).symm rfl

/-- A loss of lock by R88 and R89. -/
theorem State.loseLock_takes {r : RefNo} {since : Nat} (timing : (s.shelf h).timing = some (.locked r since)) :
    Takes h (lockLost s h r (.locked r since)) s (s.loseLock h r) := by
  have marked := ((ShelfStep.refl (s := s) (h := h) rfl).markRefused rfl r).post (.lockLost h r)
  refine (marked.leaveLocked timing).congr (Shelf.withTiming_candidates _ _ _) ?_ rfl
  exact (Shelf.moved_withTiming timing (fallbackOf_locked_ne s h r r since since)).symm

/-- A shelf in ACQUIRE locks on its target (R84). -/
theorem State.lock_takes {r : RefNo} {o : Origin} {expiry : SecondTimer}
    (timing : (s.shelf h).timing = some (.acquire r o expiry)) :
    Takes h ((s.shelf h).withTiming (.locked r s.now), [.switchDone h r, .shelfState h .locked]) s (s.lock h r) :=
  ((((ShelfStep.refl rfl).setTiming (.locked r s.now)).post _).post _).congr rfl
    (Shelf.moved_withTiming timing (by simp)).symm rfl

/-- TRACKING by the tables of R84, R87 and R88. -/
theorem State.takeTracking_takes (joined : (s.shelf h).admission = .joined c) (q : RefNo) :
    Takes h (cardOutcome s h (.tracking q)) s (s.takeTracking h q) := by
  have timing := Shelf.timing_of_joined joined
  simp only [cardOutcome, joined, State.takeTracking, timing]
  rcases state : c.timing with _ | ⟨r, o, expiry⟩ | ⟨r, since⟩ | o
  · exact s.post_takes h _
  · dsimp only
    split
    · exact State.lock_takes (timing.trans (congrArg some state))
    · exact Takes.unchanged h s
  · dsimp only
    split
    · exact Takes.unchanged h s
    · exact State.loseLock_takes (timing.trans (congrArg some state))
  · exact s.post_takes h _

/-- FREE by the tables of R84, R87 and R88. -/
theorem State.takeFree_takes (joined : (s.shelf h).admission = .joined c) :
    Takes h (cardOutcome s h .free) s (s.takeFree h) := by
  have timing := Shelf.timing_of_joined joined
  simp only [cardOutcome, joined, State.takeFree, timing]
  rcases state : c.timing with _ | _ | ⟨r, since⟩ | _
  case locked => exact State.loseLock_takes (timing.trans (congrArg some state))
  all_goals exact Takes.unchanged h s

end

/-- A card report is taken by the tables (R78 to R80, R84, R87, R88). -/
theorem State.takeReport_takes (h : ShelfNo) (rep : CardReport) (s : State) :
    Takes h (cardOutcome s h rep) s (s.takeReport h rep) := by
  rcases admission : (s.shelf h).admission with _ | reason | c
  case joined =>
    rcases rep with cls | r | r | _ | _
    case announce => simpa only [State.takeReport, admission] using State.restartCard_takes admission cls
    case tracking => simpa only [State.takeReport, admission] using State.takeTracking_takes admission r
    case free => simpa only [State.takeReport, admission] using State.takeFree_takes admission
    case withdraw =>
      simpa only [State.takeReport, cardOutcome, admission]
        using State.vacate_takes (s := s) (h := h) _ (by simp [admission])
    case acquiring => simpa only [State.takeReport, cardOutcome, admission] using Takes.unchanged h s
  all_goals
    have apart : (s.shelf h).isJoined = false := by simp [Shelf.isJoined, Shelf.card, admission]
    rcases rep with cls | r | r | _ | _
    case announce => simpa only [State.takeReport, admission] using State.admitCard_takes apart cls
  case rejected.withdraw =>
    simpa only [State.takeReport, cardOutcome, admission]
      using State.vacate_takes (s := s) (h := h) _ (by simp [admission])
  all_goals simpa only [State.takeReport, cardOutcome, admission] using Takes.unchanged h s

/-! ## The delivery of a card report -/

/-- No table of the card reports reads or writes the card silence. -/
theorem cardOutcome_withSilence {s t : State} {h : ShelfNo} {silence : Option SecondTimer} (now : t.now = s.now)
    (shelf : t.shelf h = { s.shelf h with silence := silence }) (rep : CardReport) :
    cardOutcome t h rep
      = ({ (cardOutcome s h rep).1 with silence := silence }, (cardOutcome s h rep).2) := by
  have cfg : (t.shelf h).cfg = (s.shelf h).cfg := by rw [shelf]
  have lost (r : RefNo) (timing : Timing) :
      lockLost t h r timing = ({ (lockLost s h r timing).1 with silence := silence }, (lockLost s h r timing).2) := by
    simp only [lockLost, markedEntries, fallbackOf_congr_cfg now cfg, now, shelf, Shelf.withTiming_silence]
  rcases record : s.shelf h with ⟨cfg, list, admission, old, hold⟩
  rw [record] at shelf
  rcases admission with _ | reason | c <;> rcases rep with cls | r | r | _ | _ <;>
    simp only [cardOutcome, shelf, record, now]
  case joined.tracking =>
    rcases c.timing with _ | _ | _ | _
    case locked =>
      dsimp only
      split
      · rfl
      · exact lost _ _
    case acquire =>
      dsimp only
      split <;> rfl
    all_goals rfl
  case joined.free =>
    rcases c.timing with _ | _ | _ | _
    case locked => exact lost _ _
    all_goals rfl
  all_goals (split_ifs <;> rfl)

/-- The card silence renewed and the report taken, in the state in which the last word is judged (R78). -/
theorem State.deliverReport_step {s t : State} {h : ShelfNo} {rep : CardReport} (event : s.deliverReport h rep = t) :
    ShelfStep h { (cardOutcome s h rep).1 with silence := some (s.timerIn s.engine.silenceLimit) }
      ((s.shelf h).moved (cardOutcome s h rep).1 || !(gradeReports s t).isEmpty)
      ((cardOutcome s h rep).2 ++ gradeReports s t) s t := by
  have renewed : ShelfStep h { s.shelf h with silence := some (s.timerIn s.engine.silenceLimit) } false [] s
      (s.renewSilence h) := (ShelfStep.refl rfl).setShelf rfl rfl
  have taken := (s.renewSilence h).takeReport_takes h rep
  rw [cardOutcome_withSilence renewed.now renewed.shelf, Takes, renewed.shelf] at taken
  exact (renewed.trans taken).handOnGrades (renewed.effectiveGrade rfl) event

theorem State.completing_sameGrades (n : SlotNo) (f : Framing) (s : State) (r : RefNo) :
    (s.completing n f).effectiveGrade r = s.effectiveGrade r := State.effectiveGrade_congr rfl (fun _ => rfl) r

/-- Settles O21: the block completes in its slot, and its card report is delivered. -/
theorem cardReportsAreDelivered : Obligations.CardReportsAreDelivered := by
  intro s n f length words value h rep running aligned before turn collecting whole good bound
  obtain ⟨t, event⟩ : ∃ t : State, (s.completing n f).deliverReport h rep = t := ⟨_, rfl⟩
  have delivered : (s.completing n f).judgeBlock n (words ++ [value]) = t := by
    rw [State.judgeBlock_of_bound good (((s.completing n f).bound_card_iff n h rep).2 bound), State.deliver, event]
  have word := execWordReceived_of_completing running aligned before turn collecting (Nat.le_of_eq whole) value
  have kept := s.completing_keepsStanding 0 n f
  have step := State.deliverReport_step event
  have outcome : cardOutcome (s.completing n f) h rep = cardOutcome s h rep := rfl
  have reports : gradeReports (s.completing n f) t = gradeReports s t :=
    gradeReports_of_grades (s.completing_sameGrades n f) t
  rw [outcome, reports] at step
  obtain ⟨settings, ⟨qh, port⟩, monitor, refs, others⟩ := step.only
  refine ⟨t, word.trans (congrArg _ delivered), step.shelf, ?_, ?_, qh, port, monitor, refs,
    KeepsSettings.trans kept.settings settings, others⟩
  · exact step.posts.queue.trans ((KeepsSettings.sameMasks kept.settings).postAll_queue rfl _)
  · rw [PassAfter, step.passPending, step.shelf, Shelf.moved, ← Bool.or_assoc, ← Bool.or_assoc]
    rfl

end Sys2Proof.Machine

/-!
SUPPORT. The timed events of a shelf: card silence, refusal marks that run out, acquire expiry and holdover aging.
-/

namespace Sys2Proof.Machine

open Sys2Proof

/-! ## When they are due -/

section
variable {s : State} {h : ShelfNo} {r : RefNo}

theorem State.silenceDue_iff (s : State) (h : ShelfNo) :
    s.silenceDue h = true ↔ ∃ x, (s.shelf h).silence = some ⟨x, true⟩ := by
  unfold State.silenceDue timerReached
  rcases (s.shelf h).silence with _ | ⟨x, reached⟩ <;> simp

theorem State.markDue_iff (s : State) (h : ShelfNo) (r : RefNo) :
    s.markDue h r = true ↔ ∃ e, (s.shelf h).entry r = some e ∧ e.armed = true ∧ e.refusedUntil ≤ s.now := by
  unfold State.markDue
  rcases (s.shelf h).entry r with _ | e <;> simp

theorem State.acquireDue_iff (s : State) (h : ShelfNo) :
    s.acquireDue h = true ↔ ∃ r o x, (s.shelf h).timing = some (.acquire r o ⟨x, true⟩) := by
  unfold State.acquireDue
  rcases (s.shelf h).timing with _ | _ | ⟨r, o, x, reached⟩ | _ | _ <;> simp

theorem State.agingDue_iff (s : State) (h : ShelfNo) :
    s.agingDue h = true ↔ ∃ timing o, (s.shelf h).timing = some timing ∧ timing.heldOver = some o
      ∧ (s.shelf h).cfg.holdoverLimit ≠ 0 ∧ o.aged = false ∧ o.reached = true := by
  unfold State.agingDue
  rcases (s.shelf h).timing with _ | timing
  · simp
  · rcases held : timing.heldOver with _ | o <;> simp [held, and_assoc]

/-! ## The commands -/

theorem execCardSilenceExpiry_of_due (running : s.resetHeld = false) (due : s.silenceDue h = true) :
    exec (.cardSilenceExpiry h.val) s = .next (State.regrading (State.goSilent h) s) := by
  rw [exec, execCardSilenceExpiry, onShelf_of_lt h.val h.isLt]
  exact eventIf_of_due _ s _ running due

theorem execCardSilenceExpiry_of_not_due (early : ¬ s.silenceDue h = true) :
    exec (.cardSilenceExpiry h.val) s = .next s := by
  rw [exec, execCardSilenceExpiry, onShelf_of_lt h.val h.isLt]
  exact eventIf_of_not_due _ s _ (by simpa using early)

theorem execRefusalMarkRunOut_of_due (running : s.resetHeld = false) (due : s.markDue h r = true) :
    exec (.refusalMarkRunOut h.val r.val) s = .next ((s.disarmMark h r).leavePassPending) := by
  rw [exec, execRefusalMarkRunOut, onShelf_of_lt h.val h.isLt, onRef_of_lt r.val r.isLt]
  exact eventIf_of_due _ s _ running due

theorem execRefusalMarkRunOut_of_not_due (early : ¬ s.markDue h r = true) :
    exec (.refusalMarkRunOut h.val r.val) s = .next s := by
  rw [exec, execRefusalMarkRunOut, onShelf_of_lt h.val h.isLt, onRef_of_lt r.val r.isLt]
  exact eventIf_of_not_due _ s _ (by simpa using early)

theorem execAcquireExpiry_of_due (running : s.resetHeld = false) (due : s.acquireDue h = true) :
    exec (.acquireExpiry h.val) s = .next (State.regrading (State.timeOut h) s) := by
  rw [exec, execAcquireExpiry, onShelf_of_lt h.val h.isLt]
  exact eventIf_of_due _ s _ running due

theorem execAcquireExpiry_of_not_due (early : ¬ s.acquireDue h = true) :
    exec (.acquireExpiry h.val) s = .next s := by
  rw [exec, execAcquireExpiry, onShelf_of_lt h.val h.isLt]
  exact eventIf_of_not_due _ s _ (by simpa using early)

theorem execHoldoverAging_of_due (running : s.resetHeld = false) (due : s.agingDue h = true) :
    exec (.holdoverAging h.val) s = .next (State.regrading (State.ageHoldover h) s) := by
  rw [exec, execHoldoverAging, onShelf_of_lt h.val h.isLt]
  exact eventIf_of_due _ s _ running due

theorem execHoldoverAging_of_not_due (early : ¬ s.agingDue h = true) :
    exec (.holdoverAging h.val) s = .next s := by
  rw [exec, execHoldoverAging, onShelf_of_lt h.val h.isLt]
  exact eventIf_of_not_due _ s _ (by simpa using early)

/-! ## What they do to the shelf -/

/-- The reports of a card that falls silent (R81). -/
def silentReports (h : ShelfNo) (x : Shelf) : List Report := if x.admission = .vacant then [] else [.cardSilent h]

/-- A silent card vacates its shelf (R81). -/
theorem State.goSilent_step (h : ShelfNo) (s : State) :
    ShelfStep h { s.shelf h with silence := none, admission := .vacant }
      ((s.shelf h).moved { s.shelf h with silence := none, admission := .vacant })
      (silentReports h (s.shelf h)) s (s.goSilent h) := by
  have stopped : ShelfStep h { s.shelf h with silence := none } false [] s
      (s.setShelf h { s.shelf h with silence := none }) := (ShelfStep.refl rfl).setShelf rfl rfl
  have vacated := stopped.vacate (.cardSilent h)
  have leaves (present : (s.shelf h).admission.code ≠ 0) :
      (s.shelf h).moved { s.shelf h with silence := none, admission := .vacant } = true :=
    Shelf.moved_of_code present.symm
  rw [State.goSilent, silentReports]
  rcases admission : (s.shelf h).admission with _ | reason | c
  · refine stopped.congr (by rw [← admission]) ?_ rfl
    simp [Shelf.moved, Shelf.timing, Shelf.card, Admission.code, admission]
  · exact vacated.congr rfl (leaves (by simp [admission, Admission.code])).symm rfl
  · exact vacated.congr rfl (leaves (by simp [admission, Admission.code])).symm rfl

/-- An acquisition that runs out goes to its fallback, its target marked (R85, R91). -/
theorem State.timeOut_step {o : Origin} {expiry : SecondTimer}
    (timing : (s.shelf h).timing = some (.acquire r o expiry)) :
    ShelfStep h { (s.shelf h).withTiming (fallbackOf s h (.acquire r o expiry)) with candidates := markedEntries s h r }
      true [.acquireTimeout h r, .shelfState h (fallbackOf s h (.acquire r o expiry)).name] s (s.timeOut h) := by
  have selected : (s.shelf h).selected = some r := by rw [Shelf.selected, timing]; rfl
  have marked := (ShelfStep.refl (s := s) (h := h) rfl).markRefused rfl r
  rw [State.timeOut, selected]
  exact (marked.leaveAcquire timing (.acquireTimeout h)).congr (Shelf.withTiming_candidates _ _ _) rfl rfl

theorem agedTiming_eq (t : Timing) : agedTiming t = t.age := by
  rcases t with _ | ⟨_, _ | _ | _, _⟩ | _ | _ <;> rfl

/-- A holdover past its limit is aged (R90). -/
theorem State.ageHoldover_step {timing : Timing} (present : (s.shelf h).timing = some timing) :
    ShelfStep h ((s.shelf h).withTiming (agedTiming timing)) true [.holdoverAged h] s (s.ageHoldover h) := by
  rcases admission : (s.shelf h).admission with _ | _ | c
  case joined =>
    obtain rfl : c.timing = timing := Option.some.inj ((Shelf.timing_of_joined admission).symm.trans present)
    rw [Shelf.withTiming_of_joined admission, agedTiming_eq]
    exact (ShelfStep.refl (Shelf.withCard_eq admission).symm).ageHoldover
  all_goals simp [Shelf.timing, Shelf.card, admission] at present

end

/-! ## The statements -/

/-- Settles O22: the card silence by the admission of the shelf, the refusal mark by its entry. -/
theorem silencesAndRefusalMarksRunOut : Obligations.SilencesAndRefusalMarksRunOut := by
  refine ⟨fun s h running => ⟨fun x silent => ?_, fun early => ?_⟩, fun s h r running =>
    ⟨fun e entry armed past => ?_, fun early => ?_⟩⟩
  · obtain ⟨t, event⟩ : ∃ t : State, State.regrading (State.goSilent h) s = t := ⟨_, rfl⟩
    have step := (s.goSilent_step h).regrading event
    refine ⟨t, ?_, step.shelf, step.posts.queue, ?_, step.only⟩
    · rw [execCardSilenceExpiry_of_due running ((s.silenceDue_iff h).2 ⟨x, silent⟩), event]
    · exact step.passAfter
  · refine execCardSilenceExpiry_of_not_due fun due => ?_
    obtain ⟨x, reached⟩ := (s.silenceDue_iff h).1 due
    rcases early with absent | ⟨y, toCome⟩
    · simp [absent] at reached
    · simp [toCome] at reached
  · exact execRefusalMarkRunOut_of_due running ((s.markDue_iff h r).2 ⟨e, entry, armed, past⟩)
  · refine execRefusalMarkRunOut_of_not_due fun due => ?_
    obtain ⟨e, entry, armed, past⟩ := (s.markDue_iff h r).1 due
    rcases early with absent | ⟨d, same, other⟩
    · simp [absent] at entry
    · obtain rfl : d = e := by simpa [same] using entry
      rcases other with disarmed | later
      · simp [disarmed] at armed
      · omega

/-- Settles O23: the acquire expiry by the timing state of the shelf, the aging by its holdover. -/
theorem acquisitionsRunOutAndHoldoversAge : Obligations.AcquisitionsRunOutAndHoldoversAge := by
  refine ⟨fun s h running => ⟨fun r o x timing => ?_, fun early => ?_⟩, fun s h running =>
    ⟨fun timing o present held limit young reached => ?_, fun early => ?_⟩⟩
  · obtain ⟨t, event⟩ : ∃ t : State, State.regrading (State.timeOut h) s = t := ⟨_, rfl⟩
    have step := (State.timeOut_step timing).regrading event
    refine ⟨t, ?_, step.shelf, step.posts.queue, ?_, step.only⟩
    · rw [execAcquireExpiry_of_due running ((s.acquireDue_iff h).2 ⟨r, o, x, timing⟩), event]
    · rw [step.passPending, Bool.true_or, Bool.or_true]
  · refine execAcquireExpiry_of_not_due fun due => ?_
    obtain ⟨r, o, x, timing⟩ := (s.acquireDue_iff h).1 due
    exact early r o x timing
  · obtain ⟨t, event⟩ : ∃ t : State, State.regrading (State.ageHoldover h) s = t := ⟨_, rfl⟩
    have step := (State.ageHoldover_step present).regrading event
    refine ⟨t, ?_, step.shelf, step.posts.queue, ?_, step.only⟩
    · rw [execHoldoverAging_of_due running ((s.agingDue_iff h).2 ⟨timing, o, present, held, limit, young, reached⟩),
        event]
    · rw [step.passPending, Bool.true_or, Bool.or_true]
  · refine execHoldoverAging_of_not_due fun due => ?_
    obtain ⟨timing, o, present, held, limit, young, reached⟩ := (s.agingDue_iff h).1 due
    rcases early timing o present held with none | aged | toCome
    · exact limit none
    · simp [aged] at young
    · simp [toCome] at reached

end Sys2Proof.Machine

/-!
SUPPORT. PASS_VISIT: what the choice of a shelf rests on, and the visits of an unheld and of a held shelf.
-/

namespace Sys2Proof.Machine

open Sys2Proof

/-! ## What the choice rests on -/

/-- Two states agree on everything that eligibility and the choice read (R99 to R103). -/
structure SameChoiceInputs (s t : State) : Prop where
  now : t.now = s.now
  refs : t.refs = s.refs
  depthLimit : t.engine.depthLimit = s.engine.depthLimit
  shelf : ∀ h : ShelfNo, t.shelf h = s.shelf h

section
variable {s t : State}

theorem SameChoiceInputs.ref (a : SameChoiceInputs s t) (r : RefNo) : t.ref r = s.ref r := State.ref_congr a.refs r

theorem SameChoiceInputs.sameMasks (a : SameChoiceInputs s t) : SameMasks s t :=
  ⟨a.now, fun r => by rw [a.ref], fun h => by rw [a.shelf]⟩

theorem SameChoiceInputs.effectiveGrade (a : SameChoiceInputs s t) (r : RefNo) :
    t.effectiveGrade r = s.effectiveGrade r := State.effectiveGrade_congr a.refs a.shelf r

theorem SameChoiceInputs.chain (a : SameChoiceInputs s t) (h : ShelfNo) : t.chain h = s.chain h := by
  have next (g : ShelfNo) : t.nextOnChain g = s.nextOnChain g := by
    have home : t.feedHome = s.feedHome := funext fun r => by simp only [State.feedHome, a.ref]
    simp only [State.nextOnChain, a.shelf, home]
  unfold State.chain
  induction Config.chainFuel generalizing h with
  | zero => rfl
  | succ n ih => simp only [State.chainFrom, next, ih]

theorem SameChoiceInputs.feedFits (a : SameChoiceInputs s t) (h g : ShelfNo) : t.feedFits h g = s.feedFits h g := by
  have depth : t.depth g = s.depth g := by simp only [State.depth, a.chain]
  have height : t.height h = s.height h := by simp only [State.height, a.chain]
  simp only [State.feedFits, depth, height, a.shelf, a.chain, a.depthLimit]

theorem SameChoiceInputs.loopFree (a : SameChoiceInputs s t) (h : ShelfNo) (r : RefNo) :
    t.loopFree h r = s.loopFree h r := by
  simp only [State.loopFree, a.ref, a.feedFits]

theorem SameChoiceInputs.eligible (a : SameChoiceInputs s t) (h : ShelfNo) : t.eligible h = s.eligible h := by
  funext e
  simp only [State.eligible, a.ref, a.now, a.effectiveGrade, a.shelf, a.loopFree]

theorem SameChoiceInputs.eligibleRef (a : SameChoiceInputs s t) (h : ShelfNo) (r : RefNo) :
    t.eligibleRef h r = s.eligibleRef h r := by
  simp only [State.eligibleRef, a.shelf, a.eligible]

theorem SameChoiceInputs.bestOf (a : SameChoiceInputs s t) (l : List RefNo) : t.bestOf l = s.bestOf l := by
  induction l with
  | nil => rfl
  | cons r rest ih => simp only [State.bestOf, ih, a.effectiveGrade]

theorem SameChoiceInputs.autoChoice (a : SameChoiceInputs s t) (h : ShelfNo) : t.autoChoice h = s.autoChoice h := by
  have refs : t.eligibleRefs h = s.eligibleRefs h := by simp only [State.eligibleRefs, a.shelf, a.eligible]
  simp only [State.autoChoice, State.bestChoice, a.shelf, a.eligibleRef, a.effectiveGrade, a.bestOf, refs]

theorem SameChoiceInputs.choice (a : SameChoiceInputs s t) (h : ShelfNo) : t.choice h = s.choice h := by
  simp only [State.choice, State.forcedChoice, a.shelf, a.autoChoice, a.ref, a.loopFree, a.eligibleRef]

theorem SameChoiceInputs.visitOutcome (a : SameChoiceInputs s t) (h : ShelfNo) (choice : Option RefNo)
    (timing : Timing) : visitOutcome t h choice timing = visitOutcome s h choice timing := by
  have traced : t.tracedGrade h = s.tracedGrade h := State.tracedFrom_congr a.refs a.shelf _ h
  simp only [Machine.visitOutcome, acquireExpiry, a.now, a.shelf, traced, fallbackOf_congr a.now (a.shelf h)]

end

/-! ## The visit of an unheld shelf -/

/-- The switch request after an unheld visit: a manual one that is not eligible is dropped (R123). -/
def State.visitedRequest (s : State) (h : ShelfNo) : SwitchRequest → SwitchRequest
  | .manual r => if s.eligibleRef h r then .manual r else .none
  | x => x

/-- The report of a switch request that an unheld visit drops (R123). -/
def State.visitedReports (s : State) (h : ShelfNo) : SwitchRequest → List Report
  | .manual r => if s.eligibleRef h r then [] else [.manualDropped h r]
  | _ => []

section
variable {h : ShelfNo} {s t : State} {x : Shelf} {c : JoinedCard} {p : Bool} {reps : List Report}

theorem State.dropIneligible_step (card : s.shelf h = x.withCard c) :
    ShelfStep h (x.withCard { c with request := s.visitedRequest h c.request })
      (decide (s.visitedRequest h c.request ≠ c.request)) (s.visitedReports h c.request) s (s.dropIneligible h) := by
  have unchanged (same : s.visitedRequest h c.request = c.request) :
      ShelfStep h (x.withCard { c with request := s.visitedRequest h c.request })
        (decide (s.visitedRequest h c.request ≠ c.request)) [] s s := by
    rw [same]
    exact (ShelfStep.refl card).congr rfl (by simp) rfl
  rw [State.dropIneligible, card, Shelf.withCard_request]
  rcases request : c.request with _ | r | r
  · exact (request ▸ unchanged) rfl
  · exact (request ▸ unchanged) rfl
  · rcases eligible : s.eligibleRef h r with _ | _
    · have dropped := ((((ShelfStep.refl card).mapCard fun c => { c with request := .none }).leavePassPending).post
        (.manualDropped h r))
      simpa [State.visitedRequest, State.visitedReports, eligible, State.dropRequest, card, request] using dropped
    · simpa [State.visitedRequest, State.visitedReports, eligible, request] using unchanged

/-- A shelf enters ACQUIRE from the timing state it is in (R83). -/
theorem ShelfStep.enterAcquire {timing : Timing} (a : ShelfStep h x p reps s t) (present : x.timing = some timing)
    (r : RefNo) :
    ShelfStep h (x.withTiming (.acquire r (t.acquireOrigin h timing) (acquireExpiry s h))) true
      (reps ++ [.shelfState h .acquire]) s (t.enterAcquire h r) := by
  have expiry : t.timerIn x.cfg.acquireLimit = acquireExpiry s h := by
    simp only [State.timerIn, acquireExpiry, capTime, Config.topTime, a.now, a.cfg]
  rw [State.enterAcquire, a.shelf, present]
  dsimp only
  rw [expiry]
  exact a.moveShelf _

/-- What a shelf carries into ACQUIRE from LOCKED, after steps that left the timing state as it was (R83). -/
theorem ShelfStep.acquireOrigin_locked {r : RefNo} {since : Nat} (a : ShelfStep h x p reps s t)
    (same : x.timing = (s.shelf h).timing) :
    t.acquireOrigin h (.locked r since)
      = .locked (if (s.shelf h).cfg.qualifyTime ≤ s.now - since then .holdover else .freeRun) (s.tracedGrade h) := by
  simp only [State.acquireOrigin, State.qualified, decide_eq_true_eq, a.cfgs h, a.now, a.tracedGrade same]

theorem Shelf.withTiming_self {timing : Timing} (present : x.timing = some timing) : x.withTiming timing = x := by
  rcases admission : x.admission with _ | _ | c
  case joined =>
    obtain rfl : c.timing = timing := Option.some.inj ((Shelf.timing_of_joined admission).symm.trans present)
    rw [Shelf.withTiming_of_joined admission]
    exact Shelf.withCard_eq admission
  all_goals simp [Shelf.timing, Shelf.card, admission] at present

/-- The report of a visit that takes a shelf from one timing state to another (section 5.5). -/
def visitReports (h : ShelfNo) (before after : Timing) : List Report :=
  if after = before then [] else [.shelfState h after.name]

/-- The choice applied by the table of R104, after steps that left the timing state as it was. -/
theorem ShelfStep.applyChoice {timing : Timing} (a : ShelfStep h x p reps s t) (present : x.timing = some timing)
    (same : x.timing = (s.shelf h).timing) (choice : Option RefNo) :
    ShelfStep h (x.withTiming (visitOutcome s h choice timing)) (p || decide (visitOutcome s h choice timing ≠ timing))
      (reps ++ visitReports h timing (visitOutcome s h choice timing)) s (t.applyChoice h choice) := by
  have stays : ShelfStep h (x.withTiming timing) (p || decide (timing ≠ timing)) (reps ++ visitReports h timing timing)
      s t := a.congr (Shelf.withTiming_self present).symm (by simp) (by simp [visitReports])
  have moves {after : Timing} {u : State} (other : after ≠ timing)
      (step : ShelfStep h (x.withTiming after) true (reps ++ [.shelfState h after.name]) s u) :
      ShelfStep h (x.withTiming after) (p || decide (after ≠ timing)) (reps ++ visitReports h timing after) s u :=
    step.congr rfl (by simp [other]) (by simp [visitReports, other])
  have enters (r : RefNo) := a.enterAcquire present r
  unfold State.applyChoice
  rw [a.shelf, present]
  rcases timing with _ | ⟨q, o, expiry⟩ | ⟨q, since⟩ | o
  case acquire => exact stays
  case locked =>
    rcases choice with _ | r
    · exact moves (fallbackOf_locked_ne s h q q since since) (a.leaveLocked present)
    · by_cases again : r = q
      · simpa only [visitOutcome, again, if_true] using stays
      · have step := moves (by simp) (enters r)
        rw [a.acquireOrigin_locked same] at step
        simpa only [visitOutcome, again, if_false] using step
  all_goals
    rcases choice with _ | r
    · exact stays
    · exact moves (by simp [visitOutcome]) (enters r)

/-- The visit of an unheld shelf by the table of R104 (R110, R123). -/
theorem State.visitUnheld_step (card : s.shelf h = x.withCard c) :
    ShelfStep h
      (x.withCard ⟨c.cardClass, visitOutcome s h (s.choice h) c.timing, s.visitedRequest h c.request, none⟩)
      (decide (s.visitedRequest h c.request ≠ c.request)
        || decide (visitOutcome s h (s.choice h) c.timing ≠ c.timing))
      (s.visitedReports h c.request ++ visitReports h c.timing (visitOutcome s h (s.choice h) c.timing))
      s (s.visitUnheld h) :=
  ((State.dropIneligible_step card).mapCard fun c => { c with proposed := none }).applyChoice rfl
    (by rw [card]; rfl) (s.choice h)

/-- The visit of a held shelf records its choice and changes nothing else (R111, R130). -/
theorem State.regrading_visitHeld (card : s.shelf h = x.withCard c) :
    s.handOnGrades (s.visitHeld h) = s.setShelf h (x.withCard { c with proposed := s.choice h }) := by
  have recorded : s.visitHeld h = s.setShelf h (x.withCard { c with proposed := s.choice h }) := by
    rw [State.visitHeld, State.mapCard, card]
    rfl
  have step : ShelfStep h (x.withCard { c with proposed := s.choice h }) false [] s (s.visitHeld h) :=
    (ShelfStep.refl card).mapCard fun c => { c with proposed := s.choice h }
  have grades := step.effectiveGrade (by rw [card]; rfl)
  have unchanged : s.regraded (s.visitHeld h) = [] := by simp [State.regraded, grades]
  rw [State.handOnGrades, unchanged, List.foldl_nil, recorded]

end

/-! ## The command -/

/-- The state in which the next visit of a pass takes place: the position in its list has moved on (R110). -/
def State.advanced (s : State) (p : Pass) : State :=
  { s with engine := { s.engine with pass := some ⟨p.visits, p.position + 1⟩ } }

theorem State.advanced_sameChoiceInputs (s : State) (p : Pass) : SameChoiceInputs s (s.advanced p) :=
  ⟨rfl, rfl, rfl, fun _ => rfl⟩

section
variable {s : State} {p : Pass} {h : ShelfNo} {c : JoinedCard}

theorem execPassVisit_of_next (running : s.resetHeld = false) (pass : s.engine.pass = some p)
    (next : p.visits[p.position]? = some h) :
    exec .passVisit s = .next ((s.advanced p).handOnGrades ((s.advanced p).visit h)) := by
  have visit : s.engine.nextVisit = some h := by rw [Engine.nextVisit, pass]; exact next
  have advanced : { s with engine := s.engine.advance } = s.advanced p := by rw [Engine.advance, pass]; rfl
  rw [exec, execPassVisit, event_of_running s _ running, visit]
  dsimp only
  rw [advanced]
  rfl

theorem execPassVisit_of_none (running : s.resetHeld = false) (ended : s.engine.nextVisit = none) :
    exec .passVisit s = .next s := by
  rw [exec, execPassVisit, event_of_running s _ running, ended]

theorem State.visit_of_passed_over (away : (s.shelf h).isJoined = false ∨ (s.shelf h).acquiring = true) :
    s.visit h = s := by
  have skipped : (s.shelf h).visitable = false := by rcases away with away | away <;> simp [Shelf.visitable, away]
  simp [State.visit, skipped]

theorem Shelf.visitable_of_joined {x : Shelf} (joined : x.admission = .joined c) (settled : x.acquiring = false) :
    x.visitable = true := by
  simp [Shelf.visitable, Shelf.isJoined, Shelf.card, joined, settled]

end

/-- Settles O25, by whether the next shelf is visited and whether it is held. -/
theorem visitsApplyOrProposeTheChoice : Obligations.VisitsApplyOrProposeTheChoice := by
  refine ⟨fun s u p h running pass next advanced => ?_, fun s running => ⟨fun p h c pass next joined settled held => ?_,
    fun idle => ?_, fun p pass ended => ?_⟩⟩
  · change u = s.advanced p at advanced
    have same := s.advanced_sameChoiceInputs p
    have visit := execPassVisit_of_next running pass next
    rw [← advanced] at same visit
    have shelf := same.shelf h
    refine ⟨fun away => ?_, fun c joined settled unheld => ?_⟩
    · have tables : SameTables u u := ⟨rfl, rfl, rfl⟩
      rw [← shelf] at away
      rw [visit, State.visit_of_passed_over away, tables.handOnGrades]
    · obtain ⟨t, event⟩ : ∃ t : State, u.handOnGrades (u.visit h) = t := ⟨_, rfl⟩
      have applied : u.visit h = u.visitUnheld h := by
        simp [State.visit, shelf, Shelf.visitable_of_joined joined settled, unheld]
      have card : u.shelf h = (s.shelf h).withCard c := shelf.trans (Shelf.withCard_eq joined).symm
      have step := (State.visitUnheld_step card).handOnGrades (fun _ => rfl) (applied ▸ event)
      have grades : gradeReports u t = gradeReports s t := gradeReports_of_grades same.effectiveGrade t
      have request : u.visitedRequest h c.request = s.visitedRequest h c.request := by
        simp only [State.visitedRequest, same.eligibleRef]
      have reports : u.visitedReports h c.request = s.visitedReports h c.request := by
        simp only [State.visitedReports, same.eligibleRef]
      rw [same.visitOutcome, same.choice, request, reports, grades] at step
      obtain ⟨settings, incoming, monitor, refs, others⟩ := step.only
      refine ⟨t, visit.trans (congrArg _ event), ?_, ?_, ?_, incoming, settings, monitor.trans (by rw [advanced]; rfl),
        refs.trans same.refs, fun g other => (others g other).trans (same.shelf g)⟩
      · rw [step.shelf]
        cases c.request <;> rfl
      · rw [step.posts.queue, same.sameMasks.postAll_queue (by rw [advanced]; rfl)]
        cases c.request <;> rfl
      · have pending : u.engine.passPending = s.engine.passPending := by rw [advanced]; rfl
        have moved : decide (visitOutcome s h (s.choice h) c.timing ≠ c.timing)
            = decide (some (visitOutcome s h (s.choice h) c.timing) ≠ some c.timing) :=
          decide_eq_decide.2 (not_congr Option.some_inj.symm)
        rw [step.passPending, step.shelf, pending, moved, ← Bool.or_assoc, ← Bool.or_assoc]
        rfl
  · have card : (s.advanced p).shelf h = (s.shelf h).withCard c := (Shelf.withCard_eq joined).symm
    have recorded : (s.advanced p).visit h = (s.advanced p).visitHeld h := by
      have visitable := Shelf.visitable_of_joined joined settled
      have shelf := (s.advanced_sameChoiceInputs p).shelf h
      simp [State.visit, shelf, visitable, held]
    rw [execPassVisit_of_next running pass next, recorded, State.regrading_visitHeld card,
      (s.advanced_sameChoiceInputs p).choice]
    rfl
  · exact execPassVisit_of_none running (by rw [Engine.nextVisit, idle]; rfl)
  · refine execPassVisit_of_none running ?_
    rw [Engine.nextVisit, pass]
    exact List.getElem?_eq_none ended

end Sys2Proof.Machine

/-!
SUPPORT. CONFIGURE SHELF: the bytes of its body, the configuration and the list it stores, its checks, and what of the
state it leaves as it was.
-/

namespace Sys2Proof.Machine

open Sys2Proof

/-! ## Entries of two bytes -/

/-- The entries of a candidate list one after another: a reference and its lockout flag (R170). -/
def putEntries (entries : List (RefNo × Nat)) : List Byte := entries.flatMap fun e => put8 e.1.val ++ put8 e.2

theorem length_putEntries (entries : List (RefNo × Nat)) : (putEntries entries).length = 2 * entries.length := by
  induction entries with
  | nil => rfl
  | cons e rest ih =>
    rw [putEntries, List.flatMap_cons, List.length_append, List.length_append, length_put8, length_put8,
      List.length_cons]
    rw [putEntries] at ih
    omega

/-- The entries are read back in order. -/
theorem map_byteAt_putEntries {entries : List (RefNo × Nat)} (flags : ∀ e ∈ entries, e.2 ≤ 255) :
    (List.range entries.length).map
        (fun i => (byteAt (putEntries entries) (2 * i), byteAt (putEntries entries) (2 * i + 1)))
      = entries.map fun e => (e.1.val, e.2) := by
  induction entries with
  | nil => rfl
  | cons e rest ih =>
    have ref : byteAt (putEntries (e :: rest)) 0 = e.1.val := toNat_byte (by omega)
    have flag : byteAt (putEntries (e :: rest)) 1 = e.2 := toNat_byte (flags e List.mem_cons_self)
    rw [List.length_cons, List.range_succ_eq_map, List.map_cons, List.map_map, List.map_cons, ← ih fun x inside =>
      flags x (List.mem_cons_of_mem e inside)]
    exact congrArg₂ List.cons (Prod.ext ref flag) rfl

/-! ## The body -/

/-- The numbers a CONFIGURE SHELF carries, in the order of its body (R170). -/
structure ShelfRequest where
  shelf : Nat
  enabled : Nat
  classes : Nat
  slot : Nat
  revertive : Nat
  minimum : Nat
  acquire : Nat
  qualify : Nat
  holdover : Nat
  freeRun : Nat
  limit : Nat
  refusal : Nat
  mask : Nat
  entries : List (RefNo × Nat)

/-- The body up to the entries. -/
def ShelfRequest.head (q : ShelfRequest) : List Byte :=
  put8 q.shelf ++ put8 q.enabled ++ put8 q.classes ++ put8 q.slot ++ put8 q.revertive ++ put8 q.minimum
    ++ put8 q.acquire ++ put16 q.qualify ++ put8 q.holdover ++ put8 q.freeRun ++ put32 q.limit ++ put16 q.refusal
    ++ put16 q.mask ++ put8 q.entries.length

/-- The body that carries them. -/
def ShelfRequest.body (q : ShelfRequest) : List Byte := q.head ++ putEntries q.entries

theorem ShelfRequest.length_head (q : ShelfRequest) : q.head.length = 20 := by
  simp [ShelfRequest.head, put8, put16, put32]

theorem ShelfRequest.length_body (q : ShelfRequest) : q.body.length = 20 + 2 * q.entries.length := by
  rw [ShelfRequest.body, List.length_append, q.length_head, length_putEntries]

/-- Each number lies in its table, or for one that is clamped in its field (R74, R169). -/
structure ShelfRequest.Valid (q : ShelfRequest) : Prop where
  shelf : q.shelf < 32
  enabled : q.enabled ≤ 1
  classes : q.classes ≤ 7
  slot : q.slot < 48 ∨ q.slot = 255
  revertive : q.revertive ≤ 1
  minimum : q.minimum ≤ 255
  acquire : q.acquire ≤ 255
  qualify : q.qualify ≤ 65535
  holdover : q.holdover ≤ 255
  freeRun : q.freeRun ≤ 255
  limit : q.limit < 4294967296
  refusal : q.refusal ≤ 65535
  mask : q.mask ≤ 8191
  count : q.entries.length ≤ 6
  distinct : (q.entries.map (·.1)).Nodup
  flags : ∀ e ∈ q.entries, e.2 ≤ 255

/-- The fields of the body that the checks and the clamps read. -/
structure ShelfRequest.Reads (q : ShelfRequest) (body : List Byte) : Prop where
  shelf : byteAt body 0 = q.shelf
  enabled : byteAt body 1 = q.enabled
  classes : byteAt body 2 = q.classes
  slot : byteAt body 3 = q.slot
  revertive : byteAt body 4 = q.revertive
  minimum : byteAt body 5 = q.minimum
  acquire : byteAt body 6 = q.acquire
  qualify : be16At body 7 = q.qualify
  holdover : byteAt body 9 = q.holdover
  freeRun : byteAt body 10 = q.freeRun
  limit : be32At body 11 = q.limit
  refusal : be16At body 15 = q.refusal
  mask : be16At body 17 = q.mask
  count : byteAt body 19 = q.entries.length
  entries : (List.range q.entries.length).map (fun i => (byteAt body (20 + 2 * i), byteAt body (21 + 2 * i)))
    = q.entries.map fun e => (e.1.val, e.2)

theorem byteAt_append_right (front rest : List Byte) (i : Nat) :
    byteAt (front ++ rest) (front.length + i) = byteAt rest i := by
  simp [byteAt, List.getElem?_append_right]

/-- What is put into the body is read from it. -/
theorem ShelfRequest.Valid.reads {q : ShelfRequest} (valid : q.Valid) : q.Reads q.body := by
  have shelf := valid.shelf
  have slot := valid.slot
  constructor
  case entries =>
    rw [← map_byteAt_putEntries valid.flags]
    refine List.map_congr_left fun i _ => ?_
    have ref := byteAt_append_right q.head (putEntries q.entries) (2 * i)
    have flag := byteAt_append_right q.head (putEntries q.entries) (2 * i + 1)
    rw [q.length_head] at ref flag
    have place : 21 + 2 * i = 20 + (2 * i + 1) := by omega
    rw [ShelfRequest.body, place, ref, flag]
  all_goals simp only [ShelfRequest.body, ShelfRequest.head, put8, put16, put32, List.cons_append, List.nil_append,
    be32At, be16At, Nat.reduceAdd, byteAt_cons_zero, byteAt_cons_succ]
  case limit => exact be32_of_put32 valid.limit
  case qualify => exact be16_of_put16 valid.qualify
  case refusal => exact be16_of_put16 valid.refusal
  case mask => exact be16_of_put16 (valid.mask.trans (by decide))
  exacts [toNat_byte (by omega), toNat_byte (valid.enabled.trans (by decide)),
    toNat_byte (valid.classes.trans (by decide)), toNat_byte (by omega), toNat_byte (valid.revertive.trans (by decide)),
    toNat_byte valid.minimum, toNat_byte valid.acquire, toNat_byte valid.holdover, toNat_byte valid.freeRun,
    toNat_byte (valid.count.trans (by decide))]

/-! ## The checks -/

theorem noRepeats_iff (l : List Nat) : noRepeats l = true ↔ l.Nodup := by
  induction l with
  | nil => simp [noRepeats]
  | cons x rest ih => simp [noRepeats, ih]

theorem configureShelfBadIndex_iff (body : List Byte) :
    configureShelfBadIndex body = true
      ↔ 32 ≤ byteAt body 0 ∨ (48 ≤ byteAt body 3 ∧ byteAt body 3 ≠ 255)
        ∨ ∃ i < byteAt body 19, 40 ≤ byteAt body (20 + 2 * i) := by
  simp [configureShelfBadIndex, entryRefs, outsideOrPresent_iff, or_assoc]

theorem configureShelfBadIndex_of_inside {body : List Byte} (shelf : byteAt body 0 < 32)
    (slot : byteAt body 3 < 48 ∨ byteAt body 3 = 255)
    (refs : ∀ i < byteAt body 19, byteAt body (20 + 2 * i) < 40) : configureShelfBadIndex body = false := by
  rw [← Bool.not_eq_true, configureShelfBadIndex_iff]
  rintro (outside | ⟨outside, present⟩ | ⟨i, inside, outside⟩)
  · omega
  · omega
  · exact absurd (refs i inside) (by omega)

theorem configureShelfBadValue_iff (body : List Byte) :
    configureShelfBadValue body = true
      ↔ 6 < byteAt body 19 ∨ ¬ (entryRefs body).Nodup ∨ 1 < byteAt body 1 ∨ 1 < byteAt body 4 ∨ 7 < byteAt body 2
        ∨ 8191 < be16At body 17 := by
  simp [configureShelfBadValue, ← noRepeats_iff, or_assoc]

/-- Two entries that name one reference make the list repeat itself. -/
theorem entryRefs_of_repeated {body : List Byte} {i j : Nat} (before : i < j) (inside : j < byteAt body 19)
    (same : byteAt body (20 + 2 * i) = byteAt body (20 + 2 * j)) : ¬ (entryRefs body).Nodup := fun distinct =>
  before.ne (List.inj_on_of_nodup_map distinct (List.mem_range.2 (before.trans inside)) (List.mem_range.2 inside) same)

/-- The entries that a body carries: each a reference byte and a lockout flag (R170). -/
theorem entryRefs_eq (body : List Byte) :
    entryRefs body = ((List.range (byteAt body 19)).map
      fun i => (byteAt body (20 + 2 * i), byteAt body (21 + 2 * i))).map (·.1) := by
  rw [List.map_map]
  rfl

theorem candidatesOf_eq (old : Shelf) (body : List Byte) :
    candidatesOf old body = ((List.range (byteAt body 19)).map
      fun i => (byteAt body (20 + 2 * i), byteAt body (21 + 2 * i))).filterMap fun e => newEntry old e.1 e.2 := by
  rw [List.filterMap_map]
  rfl

section
variable {q : ShelfRequest} {body : List Byte}

theorem ShelfRequest.Reads.entryRefs (reads : q.Reads body) : entryRefs body = q.entries.map (·.1.val) := by
  rw [entryRefs_eq, reads.count, reads.entries, List.map_map]
  rfl

theorem ShelfRequest.Valid.goodIndex (valid : q.Valid) (reads : q.Reads body) :
    configureShelfBadIndex body = false := by
  refine configureShelfBadIndex_of_inside (reads.shelf ▸ valid.shelf) (reads.slot ▸ valid.slot) fun i inside => ?_
  have listed : byteAt body (20 + 2 * i) ∈ Machine.entryRefs body := List.mem_map_of_mem (List.mem_range.2 inside)
  rw [reads.entryRefs] at listed
  obtain ⟨e, -, ref⟩ := List.mem_map.1 listed
  exact ref ▸ e.1.isLt

theorem ShelfRequest.Valid.goodValue (valid : q.Valid) (reads : q.Reads body) :
    configureShelfBadValue body = false := by
  have distinct : (Machine.entryRefs body).Nodup := by
    have refs : q.entries.map (·.1.val) = (q.entries.map (·.1)).map Fin.val := by rw [List.map_map]; rfl
    rw [reads.entryRefs, refs]
    exact valid.distinct.map Fin.val_injective
  rw [← Bool.not_eq_true, configureShelfBadValue_iff, reads.count, reads.enabled, reads.revertive, reads.classes,
    reads.mask]
  rintro (count | repeated | enabled | revertive | classes | mask)
  · exact absurd valid.count (by omega)
  · exact repeated distinct
  · exact absurd valid.enabled (by omega)
  · exact absurd valid.revertive (by omega)
  · exact absurd valid.classes (by omega)
  · exact absurd valid.mask (by omega)

/-! ## The record stored -/

/-- The configuration an accepted request stores, clamped (R74). -/
def ShelfRequest.stored (q : ShelfRequest) : ShelfConfig where
  enabled := decide (q.enabled = 1)
  classes := BitVec.ofNat 3 q.classes
  reportSlot := if q.slot = 255 then none else some (Fin.ofNat 48 q.slot)
  revertive := decide (q.revertive = 1)
  minimumGrade := max 1 (min 12 q.minimum)
  acquireLimit := max 1 (min 60 q.acquire)
  qualifyTime := min 3600 q.qualify
  holdoverGrade := max 1 (min 12 q.holdover)
  freeRunGrade := max 1 (min 12 q.freeRun)
  holdoverLimit := min 86400 q.limit
  refusalPeriod := max 10 (min 600 q.refusal)
  reportMask := BitVec.ofNat 13 q.mask

theorem ShelfRequest.Valid.shelfConfigOf (valid : q.Valid) (reads : q.Reads body) : shelfConfigOf body = q.stored := by
  simp only [Machine.shelfConfigOf, ShelfRequest.stored, reads.enabled, reads.classes, reads.slot, reads.revertive,
    reads.minimum, reads.acquire, reads.qualify, reads.holdover, reads.freeRun, reads.limit, reads.refusal, reads.mask,
    optionSlot_of_present valid.slot, clampNat_zero, beq_eq_decide]
  rfl

/-- CLAMPED as the statement lists it: a numeric field lies outside its range (R74). -/
def ShelfRequest.clamped (q : ShelfRequest) : Bool :=
  decide (q.minimum = 0 ∨ 12 < q.minimum) || decide (q.acquire = 0 ∨ 60 < q.acquire) || decide (3600 < q.qualify)
    || decide (q.holdover = 0 ∨ 12 < q.holdover) || decide (q.freeRun = 0 ∨ 12 < q.freeRun) || decide (86400 < q.limit)
    || decide (q.refusal < 10 ∨ 600 < q.refusal)

theorem ShelfRequest.Valid.clamped (valid : q.Valid) (reads : q.Reads body) :
    configureShelfClamped body = q.clamped := by
  have fromOne (hi n : Nat) (room : 0 < hi) : max 1 (min hi n) ≠ n ↔ n = 0 ∨ hi < n := by omega
  have fromZero (hi n : Nat) : min hi n ≠ n ↔ hi < n := by omega
  have refusal : max 10 (min 600 q.refusal) ≠ q.refusal ↔ q.refusal < 10 ∨ 600 < q.refusal := by omega
  unfold configureShelfClamped ShelfRequest.clamped
  simp only [valid.shelfConfigOf reads, ShelfRequest.stored, reads.minimum, reads.acquire, reads.qualify,
    reads.holdover, reads.freeRun, reads.limit, reads.refusal, bne_eq_decide_ne, fromOne 12 _ (by decide),
    fromOne 60 _ (by decide), fromZero, refusal]

/-- An entry of the new list, with the refusal mark of the old entry for its reference (R75). -/
def Shelf.renewedEntry (old : Shelf) (e : RefNo × Nat) : Candidate :=
  match old.entry e.1 with
  | some x => ⟨e.1, decide (e.2 ≠ 0), x.refusedUntil, x.armed⟩
  | none => ⟨e.1, decide (e.2 ≠ 0), 0, false⟩

theorem newEntry_eq (old : Shelf) (e : RefNo × Nat) : newEntry old e.1.val e.2 = some (old.renewedEntry e) := by
  rw [newEntry, dif_pos e.1.isLt, Shelf.renewedEntry, ← bne_eq_decide_ne]
  rcases entry : old.entry e.1 with _ | x
  · rfl
  · have ref : x.ref = e.1 := by simpa using List.find?_some entry
    simp [ref]

theorem ShelfRequest.Reads.candidatesOf (reads : q.Reads body) (old : Shelf) :
    candidatesOf old body = q.entries.map old.renewedEntry := by
  rw [candidatesOf_eq, reads.count, reads.entries, List.filterMap_map]
  have entries : ((fun e : Nat × Nat => newEntry old e.1 e.2) ∘ fun e : RefNo × Nat => (e.1.val, e.2))
      = some ∘ old.renewedEntry := funext fun e => newEntry_eq old e
  rw [entries, List.filterMap_eq_map]

end

/-! ## The answers -/

section
variable {body : List Byte} {s : State}

theorem serveConfigureShelf_of_badIndex (size : body.length = 20 + 2 * byteAt body 19)
    (bad : configureShelfBadIndex body = true) : serveConfigureShelf body s = refuse s .badIndex [] := by
  rw [serveConfigureShelf, if_neg (by omega), if_pos bad]

theorem serveConfigureShelf_of_badValue (size : body.length = 20 + 2 * byteAt body 19)
    (index : configureShelfBadIndex body = false) (bad : configureShelfBadValue body = true) :
    serveConfigureShelf body s = refuse s .badValue [] := by
  rw [serveConfigureShelf, if_neg (by omega), if_neg (ne_true_of_eq_false index), if_pos bad]

variable {q : ShelfRequest} {h : ShelfNo}

theorem serveConfigureShelf_of_valid (valid : q.Valid) (shelf : q.shelf = h.val) :
    serveConfigureShelf q.body s
      = if (s.shelf h).acquiring then refuse s .busy []
        else accept (State.regrading (State.reconfigureShelf h q.stored (q.entries.map (s.shelf h).renewedEntry)) s)
          q.clamped [] := by
  have reads := valid.reads
  have size : ¬ (q.body.length < 20 ∨ q.body.length ≠ 20 + 2 * byteAt q.body 19) := by
    rw [q.length_body, reads.count]
    omega
  have number : byteAt q.body 0 = h.val := reads.shelf.trans shelf
  rw [serveConfigureShelf, if_neg size, if_neg (ne_true_of_eq_false (valid.goodIndex reads)),
    if_neg (ne_true_of_eq_false (valid.goodValue reads))]
  simp [number, valid.shelfConfigOf reads, valid.clamped reads, reads.candidatesOf]

end

/-! ## What the request leaves as it was -/

section
variable (h : ShelfNo) (s : State)

theorem State.dropUnoffered_keepsOtherShelves : KeepsOtherShelves h s (s.dropUnoffered h) := by
  have dropped : KeepsOtherShelves h s (s.dropRequest h) := fun g other => by
    unfold State.dropRequest
    split <;> simp [State.shelf_mapCard, other.symm]
  unfold State.dropUnoffered
  split
  · exact fun _ _ => rfl
  · split
    · exact fun _ _ => rfl
    · exact dropped
  · split
    · exact fun _ _ => rfl
    · exact dropped

theorem State.resettleAging_keepsOtherShelves (before : Nat) : KeepsOtherShelves h s (s.resettleAging h before) := by
  unfold State.resettleAging
  split
  · split_ifs
    · exact fun _ _ => rfl
    · exact fun g other => by simp [State.ageHoldover, State.shelf_mapCard, other.symm]
    · exact fun g other => by rw [State.shelf_mapCard, if_neg other.symm]
  · exact fun _ _ => rfl

theorem State.settleShelf_keepsOtherShelves : KeepsOtherShelves h s (s.settleShelf h) := by
  have rejected (reason : RejectReason) : KeepsOtherShelves h s (s.reject h reason) := by
    have step : ShelfStep h _ _ _ s (s.reject h reason) := s.reject_takes h reason
    exact step.others
  unfold State.settleShelf
  split
  · split_ifs
    · exact rejected .disabled
    · exact rejected .cardClass
    · split
      · split_ifs
        · exact fun _ _ => rfl
        · unfold State.leaveLocked
          split
          · exact fun g other => by rw [State.shelf_moveShelf, if_neg other.symm]
          · exact fun _ _ => rfl
      · exact fun _ _ => rfl
  · exact fun _ _ => rfl

end

section
variable {h : ShelfNo} {s t : State}

/-- From the new configuration and list on, CONFIGURE SHELF is an event of one shelf (R75, R76). -/
theorem State.reconfigureShelf_onlyShelf (h : ShelfNo) (cfg : ShelfConfig) (list : List Candidate) (s : State) :
    OnlyShelf h (s.writeShelfConfig h cfg list) (s.reconfigureShelf h cfg list) := by
  rw [State.reconfigureShelf_eq]
  refine ShelfMove.onlyShelf ?_ ?_
  · exact (((State.dropUnoffered_shelfMove h _).trans (State.resettleAging_shelfMove h _ _)).trans
      (State.settleShelf_shelfMove h _)).trans (State.leavePassPending_shelfMove _)
  · intro g other
    rw [State.shelf_leavePassPending, State.settleShelf_keepsOtherShelves h _ g other,
      State.resettleAging_keepsOtherShelves h _ _ g other, State.dropUnoffered_keepsOtherShelves h _ g other]

/-- An accepted CONFIGURE SHELF writes of its shelf the configuration, the list and the admission (R75, R76). -/
theorem State.shelf_reconfigureShelf (settled : (s.shelf h).acquiring = false) (cfg : ShelfConfig)
    (list : List Candidate) :
    ∃ admission : Admission, (s.reconfigureShelf h cfg list).shelf h
      = { s.shelf h with cfg := cfg, candidates := list, admission := admission } := by
  have written := s.shelf_writeShelfConfig h cfg list
  rcases admission : (s.shelf h).admission with _ | _ | c
  case joined =>
    have joined : (s.writeShelfConfig h cfg list).shelf h = ((s.writeShelfConfig h cfg list).shelf h).withCard c :=
      (Shelf.withCard_eq (by rw [written]; exact admission)).symm
    have left := (State.reconfigureShelf_settlesShelf rfl joined settled rfl).shelf
    exact ⟨_, left.trans (by rw [written])⟩
  all_goals
    refine ⟨(s.shelf h).admission, ?_⟩
    rw [State.reconfigureShelf_of_not_joined (by simp [Shelf.isJoined, Shelf.card, admission]),
      State.shelf_leavePassPending, written]

/-- An event of one shelf writes the shelves, the pending flag and the Report Queue. -/
theorem OnlyShelf.eq_written (only : OnlyShelf h s t) :
    t = { s with
      engine := { s.engine with shelves := t.engine.shelves, passPending := t.engine.passPending }
      queue := t.queue } := by
  obtain ⟨⟨time, dh, held, pending, -, -, -, -, depth, silence, pass, count, -⟩, ⟨qh, port⟩, monitor, refs, -⟩ := only
  dsimp only
  rw [← time, ← dh, ← held, ← pending, ← depth, ← silence, ← pass, ← count, ← qh, ← port, ← monitor, ← refs]

/-- The state that an accepted CONFIGURE SHELF leaves: the record, the reports and the pass, and all else as it was
(R75, R94). -/
theorem State.regrading_reconfigureShelf (settled : (s.shelf h).acquiring = false) (cfg : ShelfConfig)
    (list : List Candidate) :
    ∃ t : State, State.regrading (State.reconfigureShelf h cfg list) s = t
      ∧ (t.shelf h).cfg = cfg ∧ (t.shelf h).candidates = list
      ∧ (t.shelf h).silence = (s.shelf h).silence ∧ (t.shelf h).hold = (s.shelf h).hold
      ∧ t.engine.shelves = (s.reconfigureShelf h cfg list).engine.shelves
      ∧ t.queue = ((s.reconfigureShelf h cfg list).postAll (gradeReports s t)).queue
      ∧ KeepsOtherShelves h s t
      ∧ t = { s with
          engine := { s.engine with shelves := t.engine.shelves, passPending := true }
          queue := t.queue } := by
  obtain ⟨u, effect⟩ : ∃ u : State, s.reconfigureShelf h cfg list = u := ⟨_, rfl⟩
  obtain ⟨t, event⟩ : ∃ t : State, s.handOnGrades u = t := ⟨_, rfl⟩
  obtain ⟨admission, left⟩ := State.shelf_reconfigureShelf settled cfg list
  have record : t.shelf h = { s.shelf h with cfg := cfg, candidates := list, admission := admission } := by
    rw [← event, State.handOnGrades_shelf, ← effect, left]
  have only : OnlyShelf h (s.writeShelfConfig h cfg list) t := OnlyShelf.trans
    (effect ▸ s.reconfigureShelf_onlyShelf h cfg list) (event ▸ s.handOnGrades_onlyShelf h u)
  have pending : t.engine.passPending = true := by
    rw [← event, State.handOnGrades_passPending, ← effect]
    rfl
  refine ⟨t, by rw [State.regrading, effect, event], by rw [record], by rw [record], by rw [record], by rw [record],
    ?_, ?_, ?_, ?_⟩
  · rw [effect, ← event, State.handOnGrades_eq]
  · have reports : gradeReports s u = gradeReports s t := by rw [← event, gradeReports_handOnGrades]
    rw [effect, ← reports, ← event, State.handOnGrades_eq]
  · obtain ⟨-, -, -, -, others⟩ := only
    exact KeepsOtherShelves.trans (s.setShelf_keepsOtherShelves h _) others
  · have written := OnlyShelf.eq_written only
    rw [pending] at written
    exact written

end

/-- Settles O42: the refusals in the order of their checks, and the record that an accepted request stores. -/
theorem configureShelfStoresTheRecord : Obligations.ConfigureShelfStoresTheRecord := by
  refine ⟨fun s f asks size => ⟨fun bad => ?_, fun shelf slot refs bad => ?_⟩, ?_⟩
  · rw [execConfigureShelf_of_asks asks,
      serveConfigureShelf_of_badIndex size ((configureShelfBadIndex_iff f.body).2 bad), State.sendReply_refuse]
  · have index := configureShelfBadIndex_of_inside shelf slot refs
    have value : configureShelfBadValue f.body = true := by
      rw [configureShelfBadValue_iff]
      exact bad.imp_right (Or.imp_left fun ⟨_, _, before, inside, same⟩ => entryRefs_of_repeated before inside same)
    rw [execConfigureShelf_of_asks asks, serveConfigureShelf_of_badValue size index value, State.sendReply_refuse]
  · intro s f h enabled classes slot revertive minimum acquire qualify holdover freeRun limit refusal mask entries cfg
      list asks body enables classed slots reverts minima acquires qualifies holdovers freeRuns limits refusals masks
      count distinct flags isCfg isList
    obtain ⟨q, request⟩ : ∃ q : ShelfRequest, q = ⟨h.val, enabled, classes, slot, revertive, minimum, acquire, qualify,
      holdover, freeRun, limit, refusal, mask, entries⟩ := ⟨_, rfl⟩
    have valid : q.Valid := by
      subst request
      exact ⟨h.isLt, enables, classed, slots, reverts, minima, acquires, qualifies, holdovers, freeRuns, limits,
        refusals, masks, count, distinct, flags⟩
    have carried : f.body = q.body := by rw [body, request]; rfl
    have shelf : q.shelf = h.val := by rw [request]
    have stored : q.stored = cfg := by rw [isCfg, request]; rfl
    have renewed : q.entries.map (s.shelf h).renewedEntry = list := by rw [isList, request]; rfl
    have answer := serveConfigureShelf_of_valid (s := s) valid shelf
    rw [← carried, stored, renewed] at answer
    refine ⟨fun busy => ?_, fun settled => ?_⟩
    · rw [execConfigureShelf_of_asks asks, answer, if_pos busy, State.sendReply_refuse]
    · obtain ⟨t, event, record⟩ := State.regrading_reconfigureShelf settled cfg list
      refine ⟨t, ?_, record⟩
      rw [execConfigureShelf_of_asks asks, answer, if_neg (ne_true_of_eq_false settled), event, State.sendReply_accept,
        ShelfRequest.clamped, request]

end Sys2Proof.Machine

/-!
SUPPORT. Eligibility and the choice: the conditions of an eligible entry, the entry that names a reference, the best of
a list, and the choice under each switch request.
-/

namespace Sys2Proof.Machine

open Sys2Proof

/-! ## Eligibility -/

section
variable {s : State} {h t : ShelfNo} {r : RefNo}

theorem Availability.usable_iff (a : Availability) : a.usable = true ↔ a = .available ∨ a = .failing := by
  cases a <;> simp [Availability.usable]

theorem State.eligible_iff (s : State) (h : ShelfNo) (e : Candidate) :
    s.eligible h e = true ↔
      (s.ref e.ref).cfg.kind ≠ .unused ∧ (s.ref e.ref).run.availability.usable = true ∧ e.lockout = false
        ∧ e.refusedUntil ≤ s.now ∧ s.effectiveGrade e.ref ≤ (s.shelf h).cfg.minimumGrade
        ∧ s.loopFree h e.ref = true := by
  simp only [State.eligible, Bool.and_eq_true, decide_eq_true_eq, Bool.not_eq_true', and_assoc]

theorem State.feedFits_iff (s : State) (h t : ShelfNo) :
    s.feedFits h t = true ↔ t ≠ h ∧ (s.shelf t).isJoined = true ∧ h ∉ s.chain t
      ∧ s.depth t + 1 + s.height h ≤ s.engine.depthLimit := by
  simp [State.feedFits, and_assoc]

theorem State.loopFree_of_other (other : (s.ref r).cfg.kind ≠ .feed) (h : ShelfNo) : s.loopFree h r = true := by
  simp [State.loopFree, other]

theorem State.loopFree_of_feed (feed : (s.ref r).cfg.kind = .feed) (home : (s.ref r).cfg.homeShelf = some t)
    (h : ShelfNo) : s.loopFree h r = s.feedFits h t := by
  simp [State.loopFree, feed, home]

/-! ## The entry that names a reference -/

theorem Shelf.entry_of_first {x : Shelf} {e : Candidate} {before after : List Candidate}
    (list : x.candidates = before ++ e :: after) (names : e.ref = r) (first : ∀ c ∈ before, c.ref ≠ r) :
    x.entry r = some e := by
  rw [Shelf.entry, list, List.find?_append, List.find?_eq_none.2 fun c mem => by simpa using first c mem]
  simp [names]

theorem Shelf.entry_of_absent {x : Shelf} (absent : ∀ c ∈ x.candidates, c.ref ≠ r) : x.entry r = none :=
  List.find?_eq_none.2 fun c mem => by simpa using absent c mem

theorem Shelf.mem_of_entry {x : Shelf} {e : Candidate} (entry : x.entry r = some e) :
    e ∈ x.candidates ∧ e.ref = r :=
  ⟨List.mem_of_find?_eq_some entry, by simpa using List.find?_some entry⟩

theorem State.eligibleRef_of_entry {e : Candidate} (entry : (s.shelf h).entry r = some e) :
    s.eligibleRef h r = s.eligible h e := by
  rw [State.eligibleRef, entry]

theorem State.eligibleRef_of_absent (absent : (s.shelf h).entry r = none) : s.eligibleRef h r = false := by
  rw [State.eligibleRef, absent]

theorem State.mem_eligibleRefs_iff (s : State) (h : ShelfNo) (r : RefNo) :
    r ∈ s.eligibleRefs h ↔ ∃ e ∈ (s.shelf h).candidates, s.eligible h e = true ∧ e.ref = r := by
  simp [State.eligibleRefs, and_assoc]

/-- A reference whose entry is eligible is named by an eligible entry of the list. -/
theorem State.exists_of_eligibleRef (eligible : s.eligibleRef h r = true) :
    ∃ e ∈ (s.shelf h).candidates, s.eligible h e = true ∧ e.ref = r := by
  rcases entry : (s.shelf h).entry r with _ | e
  · simp [State.eligibleRef_of_absent entry] at eligible
  · obtain ⟨mem, names⟩ := Shelf.mem_of_entry entry
    exact ⟨e, mem, State.eligibleRef_of_entry entry ▸ eligible, names⟩

/-! ## The best of a list -/

theorem State.bestOf_eq_none_iff (s : State) (l : List RefNo) : s.bestOf l = none ↔ l = [] := by
  rcases l with _ | ⟨r, rest⟩
  · simp [State.bestOf]
  · rw [State.bestOf]
    split
    · simp
    · split <;> simp

/-- The best of a list is better than all that stand before it and no worse than any that stands after it (R102). -/
theorem State.bestOf_splits {l : List RefNo} (best : s.bestOf l = some r) :
    ∃ before after : List RefNo, l = before ++ r :: after
      ∧ (∀ x ∈ before, s.effectiveGrade r < s.effectiveGrade x)
      ∧ ∀ x ∈ after, s.effectiveGrade r ≤ s.effectiveGrade x := by
  induction l generalizing r with
  | nil => simp [State.bestOf] at best
  | cons q rest ih =>
    rw [State.bestOf] at best
    rcases later : s.bestOf rest with _ | x
    · obtain rfl : q = r := by simpa [later] using best
      obtain rfl := (s.bestOf_eq_none_iff rest).1 later
      exact ⟨[], [], rfl, by simp, by simp⟩
    · obtain ⟨before, after, split, worse, noBetter⟩ := ih later
      simp only [later] at best
      split_ifs at best with better
      · obtain rfl : x = r := by simpa using best
        refine ⟨q :: before, after, by rw [split, List.cons_append], fun y mem => ?_, noBetter⟩
        rcases List.mem_cons.1 mem with rfl | mem
        · exact better
        · exact worse y mem
      · obtain rfl : q = r := by simpa using best
        refine ⟨[], rest, rfl, by simp, fun y mem => ?_⟩
        rw [split, List.mem_append, List.mem_cons] at mem
        rcases mem with mem | rfl | mem
        · exact (Nat.le_of_not_lt better).trans (Nat.le_of_lt (worse y mem))
        · exact Nat.le_of_not_lt better
        · exact (Nat.le_of_not_lt better).trans (noBetter y mem)

theorem State.mem_of_bestOf {l : List RefNo} (best : s.bestOf l = some r) : r ∈ l := by
  obtain ⟨before, after, split, -⟩ := State.bestOf_splits best
  simp [split]

/-- The best of a list leaves no better one in it. -/
theorem State.bestOf_le {l : List RefNo} (best : s.bestOf l = some r) {x : RefNo} (mem : x ∈ l) :
    s.effectiveGrade r ≤ s.effectiveGrade x := by
  obtain ⟨before, after, split, worse, noBetter⟩ := State.bestOf_splits best
  rw [split, List.mem_append, List.mem_cons] at mem
  rcases mem with mem | rfl | mem
  · exact Nat.le_of_lt (worse x mem)
  · exact Nat.le_refl _
  · exact noBetter x mem

/-- The best of a list leaves no equal one that stands earlier. -/
theorem State.bestOf_lt_of_earlier {l before after : List RefNo} (best : s.bestOf l = some r)
    (list : l = before ++ r :: after) (first : r ∉ before) {x : RefNo} (mem : x ∈ before) :
    s.effectiveGrade r < s.effectiveGrade x := by
  obtain ⟨front, rear, split, worse, -⟩ := State.bestOf_splits best
  have fresh : r ∉ front := fun again => Nat.lt_irrefl _ (worse r again)
  have same : before = front := by
    have fronts := congrArg (List.takeWhile (· ≠ r)) (list.symm.trans split)
    rwa [List.takeWhile_append_of_pos fun y mem => by simpa using fun e : y = r => first (e ▸ mem),
      List.takeWhile_append_of_pos fun y mem => by simpa using fun e : y = r => fresh (e ▸ mem),
      List.takeWhile_cons_of_neg (by simp), List.takeWhile_cons_of_neg (by simp), List.append_nil,
      List.append_nil] at fronts
  exact worse x (same ▸ mem)

/-! ## The choice -/

theorem State.autoChoice_of_revertive (revertive : (s.shelf h).cfg.revertive = true) :
    s.autoChoice h = s.bestChoice h := by
  simp [State.autoChoice, revertive]

theorem State.autoChoice_of_locked {since : Nat} (nonRevertive : (s.shelf h).cfg.revertive = false)
    (locked : (s.shelf h).timing = some (.locked r since)) :
    s.autoChoice h
      = if s.eligibleRef h r = true ∧ ∀ x ∈ s.eligibleRefs h, s.effectiveGrade r ≤ s.effectiveGrade x then some r
        else s.bestChoice h := by
  simp [State.autoChoice, nonRevertive, locked]

theorem State.autoChoice_of_not_locked (free : ∀ r since, (s.shelf h).timing ≠ some (.locked r since)) :
    s.autoChoice h = s.bestChoice h := by
  unfold State.autoChoice
  split
  · rename_i locked
    exact absurd locked (free _ _)
  · rfl

/-- An automatic choice is named by an eligible entry of the list (R102, R103). -/
theorem State.exists_of_autoChoice (chosen : s.autoChoice h = some r) :
    ∃ e ∈ (s.shelf h).candidates, s.eligible h e = true ∧ e.ref = r := by
  have ofBest (best : s.bestChoice h = some r) := (s.mem_eligibleRefs_iff h r).1 (State.mem_of_bestOf best)
  unfold State.autoChoice at chosen
  split at chosen
  · split_ifs at chosen with stays
    · obtain rfl := Option.some.inj chosen
      simp only [Bool.and_eq_true] at stays
      exact State.exists_of_eligibleRef stays.1
    · exact ofBest chosen
  · exact ofBest chosen

theorem State.choice_of_none (request : (s.shelf h).request = .none) : s.choice h = s.autoChoice h := by
  rw [State.choice, request]

theorem State.choice_of_forced (request : (s.shelf h).request = .forced r) :
    s.choice h = if (s.ref r).run.availability.usable ∧ s.loopFree h r then some r else none := by
  simp [State.choice, request, State.forcedChoice]

theorem State.choice_of_manual (request : (s.shelf h).request = .manual r) :
    s.choice h = if s.eligibleRef h r then some r else s.autoChoice h := by
  rw [State.choice, request]

end

/-- Settles O26: the choice of a revertive shelf is the best of its eligible references. -/
theorem revertiveChoiceIsTheEarliestBest : Obligations.RevertiveChoiceIsTheEarliestBest := by
  intro s h revertive
  rw [State.autoChoice_of_revertive revertive, State.bestChoice]
  refine ⟨s.bestOf_eq_none_iff _, fun r => State.bestOf_splits, fun r x mem better best => ?_,
    fun r x before after list first mem equal best => ?_⟩
  · exact Nat.not_le_of_lt better (State.bestOf_le best mem)
  · exact Nat.ne_of_gt (State.bestOf_lt_of_earlier best list first mem) equal

/-- Settles O27: the conditions of an entry, the candidates of a shelf, and the choice by request and timing state. -/
theorem eligibilityAndOtherChoices : Obligations.EligibilityAndOtherChoices := by
  refine ⟨fun s h e => ⟨?_, fun other => State.loopFree_of_other other h, fun t feed home => ?_⟩,
    fun s h => ⟨fun before after list => ?_, fun r before after e list names first => ?_, fun r absent => ?_,
      s.bestOf_eq_none_iff _, fun r => State.bestOf_splits, State.autoChoice_of_revertive⟩,
    fun s h => ⟨State.choice_of_none, fun r => State.choice_of_forced, fun r => State.choice_of_manual,
      fun nonRevertive r since locked => ⟨fun eligible best => ?_, fun left => ?_⟩, fun free => ?_⟩⟩
  · rw [s.eligible_iff, Availability.usable_iff]
  · rw [State.loopFree_of_feed feed home, s.feedFits_iff]
  · rw [State.eligibleRefs, list, List.filter_append, List.map_append]
  · have entry := Shelf.entry_of_first list names first
    exact ⟨entry, State.eligibleRef_of_entry entry⟩
  · have entry := Shelf.entry_of_absent absent
    exact ⟨entry, State.eligibleRef_of_absent entry⟩
  · rw [State.autoChoice_of_locked nonRevertive locked, if_pos ⟨eligible, best⟩]
  · rw [State.autoChoice_of_locked nonRevertive locked, if_neg]
    rintro ⟨eligible, best⟩
    rcases left with ineligible | ⟨x, mem, better⟩
    · simp [ineligible] at eligible
    · exact Nat.not_le_of_lt better (best x mem)
  · refine State.autoChoice_of_not_locked fun r since locked => ?_
    rcases free with free | ⟨o, holdover⟩
    · simp [free] at locked
    · simp [holdover] at locked

end Sys2Proof.Machine

/-!
SUPPORT. Chains of FEEDs when the next shelves change: a chain with fewer hops, and a chain with one hop written anew.
-/

namespace Sys2Proof.Machine

open Sys2Proof

/-! ## Walking along a chain -/

section
variable {s t : State} {h k : ShelfNo}

theorem State.chainFrom_of_next (next : s.nextOnChain h = some k) (n : Nat) :
    s.chainFrom (n + 1) h = h :: s.chainFrom n k := by
  rw [State.chainFrom, next]

theorem State.chainFrom_of_end (ends : s.nextOnChain h = none) (n : Nat) : s.chainFrom (n + 1) h = [h] := by
  rw [State.chainFrom, ends]

theorem State.length_chain (s : State) (h : ShelfNo) : (s.chain h).length = s.depth h + 1 := by
  have nonempty : 0 < (s.chain h).length := Nat.succ_pos _
  unfold State.depth
  omega

theorem State.length_chainFrom_le (s : State) (n : Nat) (h : ShelfNo) : (s.chainFrom n h).length ≤ n := by
  induction n generalizing h with
  | zero => exact Nat.le_refl 0
  | succ n ih =>
    rcases next : s.nextOnChain h with _ | k
    · simp [State.chainFrom_of_end next]
    · simpa [State.chainFrom_of_next next] using ih k

/-- A shorter walk along the same chain is the front of a longer one. -/
theorem State.chainFrom_prefix_of_le (s : State) {m n : Nat} (shorter : m ≤ n) (h : ShelfNo) :
    s.chainFrom m h <+: s.chainFrom n h := by
  induction m generalizing n h with
  | zero => exact List.nil_prefix
  | succ m ih =>
    obtain ⟨n, rfl⟩ : ∃ k, n = k + 1 := ⟨n - 1, by omega⟩
    rcases next : s.nextOnChain h with _ | k
    · rw [State.chainFrom_of_end next, State.chainFrom_of_end next]
    · rw [State.chainFrom_of_next next, State.chainFrom_of_next next]
      exact (List.prefix_cons_inj h).2 (ih (Nat.le_of_succ_le_succ shorter) k)

/-- With no hop that was not there before, a chain is the front of the chain before. -/
theorem State.chainFrom_prefix_of_fewer (fewer : ∀ g k, t.nextOnChain g = some k → s.nextOnChain g = some k) (n : Nat)
    (h : ShelfNo) : t.chainFrom n h <+: s.chainFrom n h := by
  induction n generalizing h with
  | zero => exact List.nil_prefix
  | succ n ih =>
    rcases next : t.nextOnChain h with _ | k
    · rw [State.chainFrom_of_end next]
      exact (List.prefix_cons_inj h).2 List.nil_prefix
    · rw [State.chainFrom_of_next next, State.chainFrom_of_next (fewer h k next)]
      exact (List.prefix_cons_inj h).2 (ih k)

theorem State.depth_le_of_fewer (fewer : ∀ g k, t.nextOnChain g = some k → s.nextOnChain g = some k) (h : ShelfNo) :
    t.depth h ≤ s.depth h :=
  Nat.sub_le_sub_right (State.chainFrom_prefix_of_fewer fewer Config.chainFuel h).length_le 1

end

/-! ## Heights -/

theorem le_foldl_max (l : List Nat) (start n : Nat) (within : n ∈ l ∨ n ≤ start) : n ≤ l.foldl max start := by
  induction l generalizing start with
  | nil => simpa using within
  | cons x rest ih =>
    refine ih (max start x) ?_
    simp only [List.mem_cons] at within
    rcases within with (rfl | later) | low
    · exact .inr (Nat.le_max_right ..)
    · exact .inl later
    · exact .inr (Nat.le_trans low (Nat.le_max_left ..))

/-- The height of a shelf counts the hops down to it from every shelf whose chain contains it (R96). -/
theorem State.idxOf_le_height {s : State} {h u : ShelfNo} (passes : h ∈ s.chain u) :
    (s.chain u).idxOf h ≤ s.height h := by
  refine le_foldl_max _ 0 _ (.inl (List.mem_map.2 ⟨u, mem_allShelves u, ?_⟩))
  rw [if_pos passes]

/-! ## One hop written anew -/

section
variable {s t : State} {h k : ShelfNo}

/-- One hop is written anew, from h to k, and k does not lead back to h: a chain that passes h goes on along the chain
of k, and a chain that does not is as it was. -/
theorem State.length_chainFrom_of_hop (hop : t.nextOnChain h = some k)
    (others : ∀ g, g ≠ h → t.nextOnChain g = s.nextOnChain g) (apart : h ∉ s.chain k) {n : Nat}
    (fuel : n ≤ Config.chainFuel) (u : ShelfNo) :
    (h ∉ s.chainFrom n u ∧ t.chainFrom n u = s.chainFrom n u)
      ∨ (h ∈ s.chainFrom n u ∧ (t.chainFrom n u).length ≤ (s.chainFrom n u).idxOf h + 1 + (s.chain k).length) := by
  induction n generalizing u with
  | zero => exact .inl ⟨List.not_mem_nil, rfl⟩
  | succ n ih =>
    have fuel' : n ≤ Config.chainFuel := Nat.le_of_succ_le fuel
    by_cases here : u = h
    · subst here
      have front := s.chainFrom_prefix_of_le fuel' k
      rcases ih fuel' k with ⟨-, same⟩ | ⟨back, -⟩
      · refine .inr ⟨List.mem_cons_self, ?_⟩
        have short : (s.chainFrom n k).length ≤ (s.chain k).length := front.length_le
        rw [State.chainFrom_of_next hop, same, List.length_cons]
        omega
      · exact absurd (front.subset back) apart
    · have next := others u here
      rcases onward : s.nextOnChain u with _ | v
      · rw [State.chainFrom_of_end (next.trans onward), State.chainFrom_of_end onward]
        exact .inl ⟨by simpa using Ne.symm here, rfl⟩
      · rw [State.chainFrom_of_next (next.trans onward), State.chainFrom_of_next onward]
        rcases ih fuel' v with ⟨away, same⟩ | ⟨passes, short⟩
        · exact .inl ⟨by simp [Ne.symm here, away], by rw [same]⟩
        · refine .inr ⟨List.mem_cons_of_mem u passes, ?_⟩
          rw [List.length_cons, List.idxOf_cons_ne _ here]
          omega

/-- The depth after one hop is written anew is the depth before, or that of a chain through the new hop. -/
theorem State.depth_le_of_hop (hop : t.nextOnChain h = some k)
    (others : ∀ g, g ≠ h → t.nextOnChain g = s.nextOnChain g) (apart : h ∉ s.chain k) (u : ShelfNo) :
    t.depth u ≤ max (s.depth u) (s.depth k + 1 + s.height h) := by
  rcases State.length_chainFrom_of_hop hop others apart (Nat.le_refl Config.chainFuel) u with
    ⟨-, same⟩ | ⟨passes, short⟩
  · have same : t.chain u = s.chain u := same
    rw [State.depth, same]
    exact Nat.le_max_left ..
  · have short : (t.chain u).length ≤ (s.chain u).idxOf h + 1 + (s.chain k).length := short
    have below := State.idxOf_le_height passes
    rw [State.length_chain, State.length_chain] at short
    omega

end

end Sys2Proof.Machine

/-!
SUPPORT. PASS_START and PASS_END: the visit list in its order, and when the two commands take place.
-/

namespace Sys2Proof.Machine

open Sys2Proof

/-! ## The visit list -/

theorem State.depth_lt (s : State) (h : ShelfNo) : s.depth h < Config.chainFuel := by
  have within : (s.chain h).length ≤ Config.chainFuel := s.length_chainFrom_le Config.chainFuel h
  rw [State.length_chain] at within
  omega

/-- The visit list takes the depths in turn, and at each depth the shelves in turn (R109). -/
theorem State.visitOrder_eq (s : State) :
    s.visitOrder = (List.range Config.chainFuel).flatMap fun d =>
      allShelves.filter fun h => (s.shelf h).visitable && s.depth h == d := by
  unfold State.visitOrder
  refine List.flatMap_congr fun d _ => ?_
  simp [List.filter_map, List.filter_filter, Function.comp_def, Bool.and_comm]

theorem Shelf.visitable_iff (x : Shelf) : x.visitable = true ↔ x.isJoined = true ∧ x.acquiring = false := by
  simp [Shelf.visitable]

theorem State.mem_visitOrder_iff (s : State) (h : ShelfNo) :
    h ∈ s.visitOrder ↔ (s.shelf h).isJoined = true ∧ (s.shelf h).acquiring = false := by
  rw [← Shelf.visitable_iff]
  simp [State.visitOrder_eq, mem_allShelves, s.depth_lt h]

theorem State.pairwise_visitOrder (s : State) :
    s.visitOrder.Pairwise fun a b => s.depth a < s.depth b ∨ (s.depth a = s.depth b ∧ a < b) := by
  have depth {d : Nat} {h : ShelfNo}
      (mem : h ∈ allShelves.filter fun h => (s.shelf h).visitable && s.depth h == d) : s.depth h = d := by
    simp only [List.mem_filter, Bool.and_eq_true, beq_iff_eq] at mem
    exact mem.2.2
  rw [State.visitOrder_eq, List.pairwise_flatMap]
  constructor
  · intro d _
    have ascending : (allShelves.filter fun h => (s.shelf h).visitable && s.depth h == d).Pairwise (· < ·) :=
      (List.pairwise_lt_finRange 32).filter _
    exact ascending.imp_of_mem fun memA memB less => .inr ⟨(depth memA).trans (depth memB).symm, less⟩
  · exact (List.pairwise_lt_range (n := Config.chainFuel)).imp fun less a memA b memB =>
      .inl (by rwa [depth memA, depth memB])

/-! ## The commands -/

section
variable {s : State}

theorem execPassStart_of_due (running : s.resetHeld = false) (pending : s.engine.passPending = true)
    (idle : s.engine.pass = none) :
    exec .passStart s = .next { s with engine := s.engine.startPass s.visitOrder } := by
  rw [exec, execPassStart]
  exact eventIf_of_due _ s _ running (by simp [pending, idle])

theorem execPassStart_of_not_due (early : s.engine.passPending = false ∨ s.engine.pass ≠ none) :
    exec .passStart s = .next s := by
  rw [exec, execPassStart]
  refine eventIf_of_not_due _ s _ ?_
  rcases early with quiet | underWay
  · simp [quiet]
  · simp [Option.isNone_eq_false_iff.2 (Option.isSome_iff_ne_none.2 underWay)]

theorem Engine.passOver_iff (e : Engine) :
    e.passOver = true ↔ ∃ p, e.pass = some p ∧ p.visits.length ≤ p.position := by
  unfold Engine.passOver Engine.nextVisit
  rcases e.pass with _ | p <;> simp

theorem execPassEnd_of_ended (running : s.resetHeld = false) {p : Pass} (pass : s.engine.pass = some p)
    (ended : p.visits.length ≤ p.position) : exec .passEnd s = .next s.endPass := by
  rw [exec, execPassEnd]
  exact eventIf_of_due _ s _ running (s.engine.passOver_iff.2 ⟨p, pass, ended⟩)

theorem execPassEnd_of_not_ended (early : ¬ s.engine.passOver = true) : exec .passEnd s = .next s := by
  rw [exec, execPassEnd]
  exact eventIf_of_not_due _ s _ (by simpa using early)

theorem State.endPass_of_clean (clean : s.engine.passPending = false) :
    s.endPass = { s with engine := { s.engine with pass := none, passCount := 0 } } := by
  simp [State.endPass, clean]

theorem State.endPass_of_dirty (dirty : s.engine.passPending = true) (few : s.engine.passCount < 8) :
    s.endPass = { s with engine := { s.engine with pass := none } } := by
  simp [State.endPass, dirty, few]

theorem State.endPass_of_limit (dirty : s.engine.passPending = true) (many : 8 ≤ s.engine.passCount) :
    s.endPass = State.post .evalLimit
      { s with engine := { s.engine with pass := none, passPending := false, passCount := 0 } } := by
  simp [State.endPass, dirty, Nat.not_lt_of_le many]

end

/-- Settles O24: the visit list of a pass that starts, and the three ends of a pass that is over. -/
theorem passesStartAndEnd : Obligations.PassesStartAndEnd := by
  refine ⟨fun s running => ⟨fun pending idle => ?_, execPassStart_of_not_due⟩,
    fun s running => ⟨fun p pass ended => ⟨fun clean => ?_, fun dirty few => ?_, fun dirty many => ?_⟩,
      fun early => ?_⟩⟩
  · exact ⟨s.visitOrder, execPassStart_of_due running pending idle, s.mem_visitOrder_iff, s.pairwise_visitOrder⟩
  · rw [execPassEnd_of_ended running pass ended, State.endPass_of_clean clean]
  · rw [execPassEnd_of_ended running pass ended, State.endPass_of_dirty dirty few]
  · rw [execPassEnd_of_ended running pass ended, State.endPass_of_limit dirty many]
  · refine execPassEnd_of_not_ended fun passOver => ?_
    obtain ⟨p, pass, ended⟩ := s.engine.passOver_iff.1 passOver
    rcases early with idle | ⟨q, same, further⟩
    · simp [idle] at pass
    · obtain rfl : q = p := by simpa [same] using pass
      omega

end Sys2Proof.Machine

/-!
SUPPORT. SET SELECTION LIMITS: its three bytes, the limits stored, and the shelves that stand in its way.
-/

namespace Sys2Proof.Machine

open Sys2Proof

section
variable {s : State} {depth persistence silence : Nat}

theorem State.deeperThan_iff (s : State) (limit : Nat) :
    s.deeperThan limit = true ↔ ∃ h : ShelfNo, (s.shelf h).isJoined = true ∧ limit < s.depth h := by
  simp [State.deeperThan, mem_allShelves]

theorem clampNat_eq (lo hi n : Nat) : clampNat lo hi n = max lo (min hi n) := rfl

theorem State.setLimits_eq (depth persistence silence : Nat) (s : State) :
    s.setLimits depth persistence silence = { s with
      refs := { s.refs with persistence := persistence }
      engine := { s.engine with
        depthLimit := depth
        silenceLimit := silence
        passPending := s.engine.passPending || decide (depth ≠ s.engine.depthLimit) } } := by
  rw [State.setLimits, bne_eq_decide_ne]

/-- The bytes of the body are the limits asked for, each stored at the nearer limit of its range (R115, R170). -/
theorem serveSetSelectionLimits_of_bytes (depths : depth ≤ 255) (persistences : persistence ≤ 255)
    (silences : silence ≤ 255) (s : State) :
    serveSetSelectionLimits (put8 depth ++ put8 persistence ++ put8 silence) s
      = if s.deeperThan (clampNat 1 6 depth) then refuse s .inUse s.putLimits
        else
          accept (s.setLimits (clampNat 1 6 depth) (clampNat 1 8 persistence) (clampNat 1 10 silence))
            (decide (clampNat 1 6 depth ≠ depth) || decide (clampNat 1 8 persistence ≠ persistence)
              || decide (clampNat 1 10 silence ≠ silence))
            (put8 (clampNat 1 6 depth) ++ put8 (clampNat 1 8 persistence) ++ put8 (clampNat 1 10 silence)) := by
  have first : byteAt (put8 depth ++ put8 persistence ++ put8 silence) 0 = depth := toNat_byte depths
  have second : byteAt (put8 depth ++ put8 persistence ++ put8 silence) 1 = persistence := toNat_byte persistences
  have third : byteAt (put8 depth ++ put8 persistence ++ put8 silence) 2 = silence := toNat_byte silences
  have size : (put8 depth ++ put8 persistence ++ put8 silence).length = 3 := rfl
  rw [serveSetSelectionLimits, if_neg (not_not.2 size), first, second, third]
  simp only [bne_eq_decide_ne]
  rfl

theorem execSetSelectionLimits_of_asks {f : Frame} (asks : s.asks 10 f) :
    exec .setSelectionLimits s = .next (State.sendReply f (serveSetSelectionLimits f.body s)) :=
  takeRequest_of_asks (· == 10) serveSetSelectionLimits s 10 f asks rfl

end

/-- Settles O44, by whether a JOINED shelf is deeper than the depth limit asked for. -/
theorem setSelectionLimits : Obligations.SetSelectionLimits := by
  intro s f depth persistence silence d p q asks body depths persistences silences isDepth isPersistence isSilence
  have answer := serveSetSelectionLimits_of_bytes depths persistences silences s
  rw [clampNat_eq 1 6, clampNat_eq 1 8, clampNat_eq 1 10, ← isDepth, ← isPersistence, ← isSilence, ← body] at answer
  rw [execSetSelectionLimits_of_asks asks, answer]
  refine ⟨fun within => ?_, fun deeper => ?_⟩
  · have free : ¬ s.deeperThan d = true := fun deeper => by
      obtain ⟨h, joined, deep⟩ := (s.deeperThan_iff d).1 deeper
      exact Nat.not_le_of_lt deep (within h joined)
    rw [if_neg free, State.sendReply_accept, State.setLimits_eq]
  · rw [if_pos ((s.deeperThan_iff d).2 deeper), State.sendReply_refuse]
    rfl

end Sys2Proof.Machine

/-!
SUPPORT. What keeps the selections and the chains sound: states that select and request no more than before, and the
records written by the events of shelves and references.
-/

namespace Sys2Proof.Machine

open Sys2Proof

/-! ## The invariants, and what keeps them -/

/-- The limits and the pass count are within their ranges (R107). -/
def Engine.CountsSound (e : Engine) : Prop :=
  1 ≤ e.depthLimit ∧ e.depthLimit ≤ 6 ∧ 1 ≤ e.silenceLimit ∧ e.silenceLimit ≤ 10 ∧ e.passCount ≤ 8
    ∧ (e.pass = none → e.passCount < 8) ∧ (e.pass ≠ none → 1 ≤ e.passCount)

theorem State.chainsSound_iff (s : State) :
    s.chainsSound ↔ s.engine.CountsSound ∧ ∀ h : ShelfNo, s.depth h ≤ s.engine.depthLimit := by
  unfold Engine.CountsSound
  exact ⟨fun ⟨least, most, depth, rest⟩ => ⟨⟨least, most, rest⟩, depth⟩,
    fun ⟨⟨least, most, rest⟩, depth⟩ => ⟨least, most, depth, rest⟩⟩

/-- The selections and the chains of t are sound where those of s are. -/
structure KeepsSelections (s t : State) : Prop where
  selections : s.selectionsSound → t.selectionsSound
  chains : s.chainsSound → t.chainsSound

theorem KeepsSelections.refl (s : State) : KeepsSelections s s := ⟨id, id⟩

theorem KeepsSelections.trans {s t u : State} (a : KeepsSelections s t) (b : KeepsSelections t u) :
    KeepsSelections s u := ⟨b.selections ∘ a.selections, b.chains ∘ a.chains⟩

/-- A shelf selects and requests nothing but what it did, and what it still selects or requests its list offers as
before. -/
structure Shelf.Narrows (x y : Shelf) : Prop where
  selected : ∀ r, y.selected = some r → x.selected = some r ∧ (x.offersUnlocked r = true → y.offersUnlocked r = true)
  requested : ∀ r, y.request.target = some r →
    x.request.target = some r ∧ (x.offersUnlocked r = true → y.offersUnlocked r = true)

/-- The limits and the pass are not written. -/
structure KeepsCounts (s t : State) : Prop where
  depthLimit : t.engine.depthLimit = s.engine.depthLimit
  silenceLimit : t.engine.silenceLimit = s.engine.silenceLimit
  pass : t.engine.pass = s.engine.pass
  passCount : t.engine.passCount = s.engine.passCount

theorem KeepsCounts.trans {s t u : State} (a : KeepsCounts s t) (b : KeepsCounts t u) : KeepsCounts s u :=
  ⟨b.depthLimit.trans a.depthLimit, b.silenceLimit.trans a.silenceLimit, b.pass.trans a.pass,
    b.passCount.trans a.passCount⟩

theorem KeepsCounts.of_engine {s t : State} (engine : t.engine = s.engine) : KeepsCounts s t :=
  ⟨by rw [engine], by rw [engine], by rw [engine], by rw [engine]⟩

theorem KeepsSettings.keepsCounts {s t : State} (a : KeepsSettings s t) : KeepsCounts s t := by
  obtain ⟨-, -, -, -, -, -, -, -, depthLimit, silenceLimit, pass, passCount, -⟩ := a
  exact ⟨depthLimit, silenceLimit, pass, passCount⟩

theorem KeepsCounts.sound {s t : State} (a : KeepsCounts s t) (sound : s.engine.CountsSound) :
    t.engine.CountsSound := by
  simpa only [Engine.CountsSound, a.depthLimit, a.silenceLimit, a.pass, a.passCount] using sound

/-- Every shelf selects and requests nothing but what it did, a reference still selected is usable and leads to the
home shelf as before, and the limits and the pass are not written. -/
structure Narrows (s t : State) : Prop extends KeepsCounts s t where
  shelf : ∀ h : ShelfNo, (s.shelf h).Narrows (t.shelf h)
  home : ∀ h r, (t.shelf h).selected = some r → t.feedHome r = s.feedHome r
  usable : ∀ h r, (t.shelf h).selected = some r → (s.ref r).run.availability.usable = true →
    (t.ref r).run.availability.usable = true

/-- The first half of the invariant, shelf by shelf (R105, R120, R125). -/
theorem State.selectionSound_iff (s : State) (h : ShelfNo) :
    s.selectionSound h ↔
      (∀ r, (s.shelf h).selected = some r →
        (s.shelf h).offersUnlocked r = true ∧ (s.ref r).run.availability.usable = true)
      ∧ ∀ r, (s.shelf h).request.target = some r → (s.shelf h).offersUnlocked r = true := by
  simp only [State.selectionSound, Option.all_eq_true, Bool.and_eq_true]

theorem Narrows.keeps {s t : State} (a : Narrows s t) : KeepsSelections s t where
  selections sound h := by
    obtain ⟨selected, requested⟩ := (s.selectionSound_iff h).1 (sound h)
    refine (t.selectionSound_iff h).2 ⟨fun r still => ?_, fun r still => ?_⟩
    · obtain ⟨before, offered⟩ := (a.shelf h).selected r still
      obtain ⟨offers, usable⟩ := selected r before
      exact ⟨offered offers, a.usable h r still usable⟩
    · obtain ⟨before, offered⟩ := (a.shelf h).requested r still
      exact offered (requested r before)
  chains sound := by
    obtain ⟨counts, depth⟩ := s.chainsSound_iff.1 sound
    have fewer (g k : ShelfNo) (next : t.nextOnChain g = some k) : s.nextOnChain g = some k := by
      obtain ⟨r, still, home⟩ := Option.bind_eq_some_iff.1 next
      obtain ⟨before, -⟩ := (a.shelf g).selected r still
      exact Option.bind_eq_some_iff.2 ⟨r, before, a.home g r still ▸ home⟩
    refine t.chainsSound_iff.2 ⟨a.toKeepsCounts.sound counts, fun h => ?_⟩
    rw [a.depthLimit]
    exact (State.depth_le_of_fewer fewer h).trans (depth h)

/-! ## Shelves that select no more -/

section
variable {x y z : Shelf}

theorem Shelf.Narrows.refl (x : Shelf) : x.Narrows x := ⟨fun _ same => ⟨same, id⟩, fun _ same => ⟨same, id⟩⟩

theorem Shelf.Narrows.trans (a : x.Narrows y) (b : y.Narrows z) : x.Narrows z where
  selected r still := by
    obtain ⟨between, late⟩ := b.selected r still
    obtain ⟨before, early⟩ := a.selected r between
    exact ⟨before, late ∘ early⟩
  requested r still := by
    obtain ⟨between, late⟩ := b.requested r still
    obtain ⟨before, early⟩ := a.requested r between
    exact ⟨before, late ∘ early⟩

/-- The selection and the request stand, and the list offers what it did. -/
theorem Shelf.Narrows.of_offers (selected : y.selected = x.selected) (request : y.request = x.request)
    (offers : ∀ r, x.offersUnlocked r = true → y.offersUnlocked r = true) : x.Narrows y :=
  ⟨fun r still => ⟨selected ▸ still, offers r⟩, fun r still => ⟨request ▸ still, offers r⟩⟩

/-- A shelf written but for its list, its selection and its request. -/
theorem Shelf.Narrows.of_same (selected : y.selected = x.selected) (request : y.request = x.request)
    (list : y.candidates = x.candidates) : x.Narrows y :=
  .of_offers selected request fun r offers => by rwa [Shelf.offersUnlocked, list]

/-- A shelf that selects and requests nothing. -/
theorem Shelf.Narrows.of_none (selected : y.selected = none) (request : y.request = .none) : x.Narrows y :=
  ⟨fun r still => by simp [selected] at still, fun r still => by simp [request, SwitchRequest.target] at still⟩

/-- A joined shelf whose card selects and requests nothing that it did not. -/
theorem Shelf.Narrows.of_card {c d : JoinedCard}
    (selected : d.timing.selected = none ∨ d.timing.selected = c.timing.selected)
    (request : d.request = .none ∨ d.request = c.request) : (x.withCard c).Narrows (x.withCard d) where
  selected r still := by
    have still : d.timing.selected = some r := still
    rcases selected with left | kept
    · simp [left] at still
    · exact ⟨kept.symm.trans still, id⟩
  requested r still := by
    have still : d.request.target = some r := still
    rcases request with left | kept
    · simp [left, SwitchRequest.target] at still
    · exact ⟨(congrArg SwitchRequest.target kept).symm.trans still, id⟩

theorem Shelf.Narrows.withTiming {t u : Timing} (present : x.timing = some t)
    (selected : u.selected = none ∨ u.selected = t.selected) : x.Narrows (x.withTiming u) := by
  rcases admission : x.admission with _ | _ | c
  case joined =>
    obtain rfl : c.timing = t := Option.some.inj ((Shelf.timing_of_joined admission).symm.trans present)
    rw [Shelf.withTiming_of_joined admission]
    exact Shelf.withCard_eq admission ▸ .of_card selected (.inr rfl)
  all_goals simp [Shelf.timing, Shelf.card, admission] at present

end

/-- A shelf that goes to its fallback selects nothing (R85, R89). -/
theorem selected_fallbackOf (s : State) (h : ShelfNo) (t : Timing) : (fallbackOf s h t).selected = none := by
  rcases t with _ | ⟨_, ⟨_ | _, _⟩ | _ | _, _⟩ | _ | _
  case locked =>
    rw [fallbackOf]
    split <;> rfl
  all_goals rfl

/-- An entry changed in nothing but its refusal mark still offers its reference. -/
theorem Shelf.offersUnlocked_map {x y : Shelf} {f : Candidate → Candidate} (list : y.candidates = x.candidates.map f)
    (ref : ∀ e, (f e).ref = e.ref) (lockout : ∀ e, (f e).lockout = e.lockout) (r : RefNo) :
    y.offersUnlocked r = x.offersUnlocked r := by
  simp only [Shelf.offersUnlocked, list, List.any_map, Function.comp_def, ref, lockout]

/-- Entries changed in nothing but their refusal marks. -/
theorem Shelf.Narrows.of_marks (x : Shelf) {f : Candidate → Candidate} (ref : ∀ e, (f e).ref = e.ref)
    (lockout : ∀ e, (f e).lockout = e.lockout) : x.Narrows { x with candidates := x.candidates.map f } :=
  .of_offers rfl rfl fun r offers => by rwa [Shelf.offersUnlocked_map rfl ref lockout]

theorem Shelf.Narrows.markedEntries (s : State) (h : ShelfNo) (r : RefNo) :
    (s.shelf h).Narrows { s.shelf h with candidates := markedEntries s h r } := by
  refine .of_marks _ (fun e => ?_) (fun e => ?_) <;> split <;> rfl

theorem Shelf.Narrows.reach (x : Shelf) (now : Nat) : x.Narrows (x.reach now) := by
  have timing (c : ShelfConfig) (t : Timing) : (t.reach c now).selected = t.selected := by
    rcases t with _ | ⟨_, _ | _ | _, _⟩ | _ | _ <;> rfl
  rcases admission : x.admission with _ | _ | c
  case joined =>
    have reached : (x.reach now).admission = .joined { c with timing := c.timing.reach x.cfg now } := by
      rw [Shelf.reach, admission, Admission.reach]
    refine .of_same ?_ ?_ rfl
    · simp [Shelf.selected, Shelf.timing, Shelf.card, admission, reached, timing]
    · simp [Shelf.request, Shelf.card, admission, reached]
  all_goals
    refine .of_none ?_ ?_ <;>
      simp [Shelf.reach, Admission.reach, admission, Shelf.selected, Shelf.timing, Shelf.request, Shelf.card]

/-! ## States that select no more -/

section
variable {s t u : State} {h : ShelfNo} {r : RefNo}

theorem Narrows.trans (a : Narrows s t) (b : Narrows t u) : Narrows s u where
  toKeepsCounts := a.toKeepsCounts.trans b.toKeepsCounts
  shelf h := (a.shelf h).trans (b.shelf h)
  home h r still := (b.home h r still).trans (a.home h r ((b.shelf h).selected r still).1)
  usable h r still := b.usable h r still ∘ a.usable h r ((b.shelf h).selected r still).1

theorem State.feedHome_congr (cfg : (t.ref r).cfg = (s.ref r).cfg) : t.feedHome r = s.feedHome r := by
  simp only [State.feedHome, cfg]

/-- References are written in nothing that a selection rests on. -/
theorem Narrows.of_refs (counts : KeepsCounts s t) (shelves : t.engine.shelves = s.engine.shelves)
    (cfg : ∀ r, (t.ref r).cfg = (s.ref r).cfg)
    (availability : ∀ r, (t.ref r).run.availability = (s.ref r).run.availability) : Narrows s t where
  toKeepsCounts := counts
  shelf h := State.shelf_congr shelves h ▸ .refl _
  home _ r _ := State.feedHome_congr (cfg r)
  usable _ r _ := by rw [availability r]; exact id

/-- Neither the Reference Unit nor the Selection Engine is written. -/
theorem Narrows.of_tables (refs : t.refs = s.refs) (engine : t.engine = s.engine) : Narrows s t :=
  .of_refs (.of_engine engine) (by rw [engine]) (fun r => by rw [State.ref_congr refs])
    fun r => by rw [State.ref_congr refs]

theorem Narrows.refl (s : State) : Narrows s s := .of_tables rfl rfl

theorem SameTables.narrows (a : SameTables s t) : Narrows s t := .of_tables a.refs a.engine

/-- A move of a reference after which it is usable where it was, for the shelves that still follow it. -/
theorem RefMove.narrows (a : RefMove r s t) (shelf : ∀ h, (s.shelf h).Narrows (t.shelf h))
    (usable : ∀ h, (t.shelf h).selected = some r → (s.ref r).run.availability.usable = true →
      (t.ref r).run.availability.usable = true) : Narrows s t where
  toKeepsCounts := ⟨a.depthLimit, a.silenceLimit, a.pass, a.passCount⟩
  shelf := shelf
  home h q _ := by
    by_cases same : q = r
    · rw [same]; exact State.feedHome_congr a.refCfg
    · exact State.feedHome_congr (by rw [a.others q same])
  usable h q still := by
    by_cases same : q = r
    · subst same; exact usable h still
    · rw [a.others q same]; exact id

theorem ShelfMove.narrows (a : ShelfMove s t) (shelf : ∀ h, (s.shelf h).Narrows (t.shelf h)) : Narrows s t :=
  (a.refMove 0).narrows shelf fun _ _ => by rw [a.ref]; exact id

/-- Of the shelves one alone is written, and of the rest nothing that a selection rests on. -/
theorem Narrows.of_one (counts : KeepsCounts s t) (refs : t.refs = s.refs) (others : KeepsOtherShelves h s t)
    (shelf : (s.shelf h).Narrows (t.shelf h)) : Narrows s t where
  toKeepsCounts := counts
  shelf g := by
    by_cases same : g = h
    · exact same ▸ shelf
    · exact others g same ▸ .refl _
  home _ r _ := State.feedHome_congr (by rw [State.ref_congr refs])
  usable _ r _ := by rw [State.ref_congr refs]; exact id

theorem OnlyShelf.narrows (a : OnlyShelf h s t) (shelf : (s.shelf h).Narrows (t.shelf h)) : Narrows s t := by
  obtain ⟨settings, -, -, refs, others⟩ := a
  exact .of_one (KeepsSettings.keepsCounts settings) refs others shelf

theorem ShelfStep.narrows {x : Shelf} {p : Bool} {reps : List Report} (a : ShelfStep h x p reps s t)
    (shelf : (s.shelf h).Narrows x) : Narrows s t := OnlyShelf.narrows a.only (a.shelf ▸ shelf)

theorem State.setShelf_narrows {x : Shelf} (shelf : (s.shelf h).Narrows x) : Narrows s (s.setShelf h x) :=
  .of_one ⟨rfl, rfl, rfl, rfl⟩ rfl (s.setShelf_keepsOtherShelves h x) (by rwa [State.shelf_setShelf_same])

theorem State.leavePassPending_narrows (s : State) : Narrows s s.leavePassPending :=
  s.leavePassPending_shelfMove.narrows fun _ => .refl _

theorem State.post_narrows (rep : Report) (s : State) : Narrows s (s.post rep) := (s.post_sameTables rep).narrows

theorem State.handOnGrades_narrows (before s : State) : Narrows s (before.handOnGrades s) :=
  (before.handOnGrades_shelfMove s).narrows fun h => before.handOnGrades_shelf s h ▸ .refl _

theorem State.regrading_narrows {f : State → State} (a : Narrows s (f s)) : Narrows s (State.regrading f s) :=
  a.trans (s.handOnGrades_narrows (f s))

/-- The running part of a reference written but for its availability. -/
theorem State.setRun_narrows {f : RefRunning → RefRunning}
    (availability : (f (s.ref r).run).availability = (s.ref r).run.availability) : Narrows s (s.setRun r f) := by
  refine .of_refs (.of_engine rfl) rfl (fun q => State.cfg_setRun r q f s) fun q => ?_
  by_cases same : q = r
  · subst same; rw [State.ref_setRun_same]; exact availability
  · rw [State.ref_setRun_of_ne f s same]

end

end Sys2Proof.Machine

/-!
SUPPORT. The events of references and of shelves: each leaves shelves that select no more than before.
-/

namespace Sys2Proof.Machine

open Sys2Proof

/-! ## A reference that fails, and the shelves taken off it -/

section
variable {s : State} {h : ShelfNo} {r q : RefNo}

theorem Shelf.selected_of_timing {x : Shelf} {t : Timing} (present : x.timing = some t) : x.selected = t.selected := by
  rw [Shelf.selected, present]
  rfl

theorem Shelf.selected_withTiming {x : Shelf} {t : Timing} (present : x.timing = some t) (u : Timing) :
    (x.withTiming u).selected = u.selected := Shelf.selected_of_timing (Shelf.timing_withTiming present u)

theorem shelfOff_narrows (s : State) (r : RefNo) (h : ShelfNo) : (s.shelf h).Narrows (shelfOff s r h) := by
  unfold shelfOff
  split
  · rename_i t timing
    split
    · exact .withTiming timing (.inl (selected_fallbackOf s h t))
    · exact .refl _
  · exact .refl _

/-- A shelf taken off a reference does not follow it any more (R86, R105, R126). -/
theorem selected_shelfOff_ne (s : State) (r : RefNo) (h : ShelfNo) : (shelfOff s r h).selected ≠ some r := by
  unfold shelfOff
  split
  · rename_i t timing
    split
    · simp [Shelf.selected_withTiming timing, selected_fallbackOf]
    · rename_i other
      rwa [Shelf.selected_of_timing timing]
  · rename_i timing
    simp [Shelf.selected, timing]

/-- The shelves that follow a reference are taken off it when it fails (R105). -/
theorem State.enterFailed_narrows (r : RefNo) (d : FailDetail) (s : State) : Narrows s (s.enterFailed r d) := by
  refine (s.enterFailed_refMove r d).narrows (fun h => ?_) fun h still => ?_
  · rw [State.shelf_enterFailed]
    exact shelfOff_narrows s r h
  · rw [State.shelf_enterFailed] at still
    exact absurd still (selected_shelfOff_ne s r h)

theorem State.becomeAvailable_narrows (r : RefNo) (d : AvailableDetail) (s : State) :
    Narrows s (s.becomeAvailable r d) := by
  refine (s.becomeAvailable_refMove r d).narrows (fun h => ?_) fun _ _ _ => by
    rw [State.ref_becomeAvailable_same]
    rfl
  rw [State.becomeAvailable, State.shelf_post]
  exact .refl _

/-- A usable reference stays so, or enters FAILED (section 1.8). -/
theorem runAfter_usable {x : RefRecord} (tick now : Nat) (before after : Bool)
    (usable : x.run.availability.usable = true) :
    (runAfter x tick now before after).availability.usable = true ∨ entersFailed x before after = true := by
  by_cases unused : x.cfg.kind = .unused
  · exact .inl (by simpa [runAfter, unused] using usable)
  rcases availability : x.run.availability with _ | _ | _ | _
  case available =>
    by_cases immediate : x.cfg.failDelay = 0 <;> cases before <;> cases after <;>
      simp [runAfter, entersFailed, unused, availability, immediate, Availability.usable]
  case failing =>
    left
    cases before <;> cases after <;> simp [runAfter, unused, availability, Availability.usable]
  all_goals simp [availability, Availability.usable] at usable

theorem State.takeDefect_narrows (before : State) (r : RefNo) (s : State) : Narrows s (before.takeDefect r s) := by
  have move := before.takeDefect_move r s
  refine (before.takeDefect_refMove r s).narrows (fun h => ?_) fun h still usable => ?_
  · rw [move.shelf]
    split
    · exact shelfOff_narrows s r h
    · exact .refl _
  · rw [State.ref_takeDefect_same]
    refine (runAfter_usable _ _ _ _ usable).resolve_right fun fails => ?_
    rw [move.shelf, if_pos fails] at still
    exact selected_shelfOff_ne s r h still

theorem State.setChanTaking_narrows (r : RefNo) (x : Channel) (s : State) : Narrows s (s.setChanTaking r x) :=
  (s.setChan_sameTables r x).narrows.trans (s.takeDefect_narrows r _)

theorem State.takeEdge_narrows (r : RefNo) (s : State) : Narrows s (s.takeEdge r) := by
  rw [State.takeEdge_eq]
  exact ((s.setChan_sameTables r _).trans (State.postFreq_sameTables r _ _ _)).narrows.trans
    (s.takeDefect_narrows r _)

theorem State.setCardDefect_narrows (r : RefNo) (d : Bool) (s : State) : Narrows s (s.setCardDefect r d) :=
  (State.setRun_narrows rfl).trans (s.takeDefect_narrows r _)

/-! ## Codes, overrides and configurations of references -/

theorem State.takeCode_narrows (r : RefNo) (c : Code) (s : State) : Narrows s (s.takeCode r c) := by
  unfold State.takeCode
  split
  · obtain ⟨availability, -, -⟩ := RefRunning.persist_keeps s.refs.persistence c (s.ref r).run
    exact State.setRun_narrows availability
  · exact .refl s

theorem State.deliverStatus_narrows (r : RefNo) (c : Code) (d : Bool) (s : State) :
    Narrows s (s.deliverStatus r c d) := by
  have renewed : Narrows s (s.renewAge r) := State.setRun_narrows rfl
  exact (renewed.trans (State.regrading_narrows (State.setCardDefect_narrows r d _))).trans
    (State.regrading_narrows (State.takeCode_narrows r c _))

theorem State.goStale_narrows (r : RefNo) (s : State) : Narrows s (s.goStale r) := by
  have dropped : Narrows s (s.dropCodes r) := (State.setRun_narrows rfl).trans (State.post_narrows _ _)
  exact dropped.trans (State.setCardDefect_narrows r false _)

theorem State.clearRestoring_narrows (r : RefNo) (s : State) : Narrows s (s.clearRestoring r) := by
  unfold State.clearRestoring
  split
  · exact s.becomeAvailable_narrows r _
  · exact .refl s

theorem State.clearOverrides_narrows (s : State) : Narrows s s.clearOverrides :=
  .of_refs (.of_engine (by simp)) (by simp) (fun r => by rw [State.ref_clearOverrides])
    fun r => by rw [State.ref_clearOverrides]

theorem State.changeMode_narrows (m : Mode) (s : State) : Narrows s (s.changeMode m) := by
  have stored (m : Mode) : Narrows s (s.storeMode m) := (s.storeMode_sameTables m).narrows
  unfold State.changeMode
  split
  · exact .refl s
  · cases m with
    | maintenance => exact stored _
    | normal => exact (stored _).trans (State.regrading_narrows (State.clearOverrides_narrows _))

theorem State.setPlan_narrows (p : PlanName) (x : CodePlan) (s : State) : Narrows s (s.setPlan p x) := by
  cases p <;> exact .of_refs (.of_engine rfl) rfl (fun _ => rfl) fun _ => rfl

theorem State.shelf_reconfigure (r : RefNo) (cfg : RefConfig) (s : State) (h : ShelfNo) :
    (s.reconfigure r cfg).shelf h = s.shelf h := State.shelf_congr (by rw [State.reconfigure_eq]) h

/-- A reference that no shelf follows is configured anew (R11, R12). -/
theorem State.reconfigure_narrows (cfg : RefConfig) (unused : s.users r = []) : Narrows s (s.reconfigure r cfg) := by
  have other {h : ShelfNo} {q : RefNo} (still : ((s.reconfigure r cfg).shelf h).selected = some q) :
      (s.reconfigure r cfg).ref q = s.ref q := by
    rw [State.shelf_reconfigure] at still
    rw [State.ref_reconfigure, if_neg]
    rintro rfl
    exact (s.users_eq_nil_iff r).1 unused h still
  exact {
    toKeepsCounts := by
      rw [State.reconfigure_eq]
      exact ⟨rfl, rfl, rfl, rfl⟩
    shelf := fun h => by
      rw [State.shelf_reconfigure]
      exact .refl _
    home := fun h q still => State.feedHome_congr (by rw [other still])
    usable := fun h q still => by rw [other still]; exact id }

/-! ## Cards -/

theorem lockLost_narrows {t : Timing} (timing : (s.shelf h).timing = some t) (r : RefNo) :
    (s.shelf h).Narrows (lockLost s h r t).1 := by
  have falls := Shelf.Narrows.withTiming (x := { s.shelf h with candidates := markedEntries s h r }) timing
    (.inl (selected_fallbackOf s h t))
  rw [Shelf.withTiming_candidates] at falls
  exact (Shelf.Narrows.markedEntries s h r).trans falls

/-- A card report takes a shelf off its reference, or locks it on the target it is in ACQUIRE toward (R84, R88). -/
theorem cardOutcome_narrows (s : State) (h : ShelfNo) (rep : CardReport) :
    (s.shelf h).Narrows (cardOutcome s h rep).1 := by
  rcases admission : (s.shelf h).admission with _ | reason | c
  case joined =>
    have timing := Shelf.timing_of_joined admission
    rcases rep with cls | q | q | _ | _ <;> simp only [cardOutcome, admission]
    case announce =>
      split
      · have restarted : ((s.shelf h).withCard c).Narrows
            ((s.shelf h).withCard { c with cardClass := cls, timing := .freeRun }) := .of_card (.inl rfl) (.inr rfl)
        rwa [Shelf.withCard_eq admission] at restarted
      · exact .of_none rfl rfl
    case withdraw => exact .of_none rfl rfl
    case acquiring => exact .refl _
    case tracking =>
      rcases state : c.timing with _ | ⟨r, o, expiry⟩ | ⟨r, since⟩ | o <;> rw [state] at timing <;> dsimp only
      case acquire =>
        split
        · exact .withTiming timing (.inr rfl)
        · exact .refl _
      case locked =>
        split
        · exact .refl _
        · exact lockLost_narrows timing r
      all_goals exact .refl _
    case free =>
      rcases state : c.timing with _ | ⟨r, o, expiry⟩ | ⟨r, since⟩ | o <;> rw [state] at timing <;> dsimp only
      case locked => exact lockLost_narrows timing r
      all_goals exact .refl _
  all_goals
    rcases rep with cls | q | q | _ | _ <;> simp only [cardOutcome, admission]
    case announce => split_ifs <;> exact .of_none rfl rfl
  case rejected.withdraw => exact .of_none rfl rfl
  all_goals exact .refl _

theorem State.deliverReport_narrows (h : ShelfNo) (rep : CardReport) (s : State) :
    Narrows s (s.deliverReport h rep) :=
  (State.deliverReport_step rfl).narrows ((cardOutcome_narrows s h rep).trans (.of_same rfl rfl rfl))

theorem State.goSilent_narrows (h : ShelfNo) (s : State) : Narrows s (s.goSilent h) :=
  (s.goSilent_step h).narrows (.of_none rfl rfl)

theorem State.timeOut_narrows (due : s.acquireDue h = true) : Narrows s (s.timeOut h) := by
  obtain ⟨r, o, expiry, timing⟩ := (s.acquireDue_iff h).1 due
  exact (State.timeOut_step timing).narrows (lockLost_narrows timing r)

theorem State.ageHoldover_narrows (due : s.agingDue h = true) : Narrows s (s.ageHoldover h) := by
  obtain ⟨timing, -, present, -⟩ := (s.agingDue_iff h).1 due
  have selected : (agedTiming timing).selected = timing.selected := by
    rcases timing with _ | ⟨_, _ | _ | _, _⟩ | _ | _ <;> rfl
  exact (State.ageHoldover_step present).narrows (.withTiming present (.inr selected))

theorem State.disarmMark_narrows (h : ShelfNo) (r : RefNo) (s : State) : Narrows s (s.disarmMark h r) := by
  refine State.setShelf_narrows (.of_marks _ (fun e => ?_) fun e => ?_) <;> split <;> rfl

/-! ## Highway words -/

theorem State.openBlock_narrows (n : SlotNo) (tag : WordValue) (s : State) : Narrows s (s.openBlock n tag) := by
  unfold State.openBlock
  split_ifs
  · exact .of_tables rfl rfl
  · exact .of_tables rfl rfl
  · exact .of_tables (by simp [State.countMisroute]) (by simp [State.countMisroute])

theorem State.judgeBlock_narrows (n : SlotNo) (words : List WordValue) (s : State) :
    Narrows s (s.judgeBlock n words) := by
  unfold State.judgeBlock
  split
  · exact .of_tables (by simp [State.countCheckError]) (by simp [State.countCheckError])
  · split
    · unfold State.deliver
      split
      · exact s.deliverStatus_narrows _ _ _
      · exact s.deliverReport_narrows _ _
    · exact .of_tables (by simp [State.countMisroute]) (by simp [State.countMisroute])

theorem State.feedWord_narrows (n : SlotNo) (w : HighwayWord) (s : State) : Narrows s (s.feedWord n w) := by
  have stored (a : Assembler) : Narrows s (s.setAssembler n a) := .of_tables rfl rfl
  have counted : Narrows s (s.countMarkError n) :=
    .of_tables (by simp [State.countMarkError]) (by simp [State.countMarkError])
  unfold State.feedWord
  split
  · exact .refl s
  · exact s.openBlock_narrows n _
  · split
    · exact (stored .hunt).trans (State.judgeBlock_narrows n _ _)
    · exact stored _
  · exact counted.trans (State.openBlock_narrows n _ _)

end

end Sys2Proof.Machine

/-!
SUPPORT. The requests and the visits that turn a shelf to another reference, and the passes: what they leave of the
selections and the chains.
-/

namespace Sys2Proof.Machine

open Sys2Proof

/-! ## Switch requests written -/

/-- A shelf with a switch request written; a shelf that is not JOINED as it is. -/
def Shelf.withRequest (q : SwitchRequest) (x : Shelf) : Shelf :=
  match x.admission with
  | .joined c => x.withCard { c with request := q }
  | _ => x

section
variable {s t : State} {h : ShelfNo} {r : RefNo} {x : Shelf} {q : SwitchRequest}

theorem Shelf.request_of_joined {c : JoinedCard} (joined : x.admission = .joined c) : x.request = c.request := by
  simp [Shelf.request, Shelf.card, joined]

theorem Shelf.withRequest_of_joined {c : JoinedCard} (joined : x.admission = .joined c) (q : SwitchRequest) :
    x.withRequest q = x.withCard { c with request := q } := by
  rw [Shelf.withRequest, joined]

theorem Shelf.selected_withRequest (q : SwitchRequest) (x : Shelf) : (x.withRequest q).selected = x.selected := by
  rcases joined : x.admission with _ | _ | c
  case joined =>
    rw [Shelf.withRequest_of_joined joined, Shelf.selected_of_timing (Shelf.timing_of_joined joined)]
    rfl
  all_goals rw [Shelf.withRequest, joined]

theorem Shelf.candidates_withRequest (q : SwitchRequest) (x : Shelf) :
    (x.withRequest q).candidates = x.candidates := by
  unfold Shelf.withRequest
  split <;> rfl

/-- A shelf that is not JOINED has no request (R82). -/
theorem Shelf.request_withRequest (q : SwitchRequest) (x : Shelf) :
    (x.withRequest q).request = q ∨ (x.withRequest q).request = .none := by
  rcases joined : x.admission with _ | _ | c
  case joined =>
    rw [Shelf.withRequest_of_joined joined]
    exact .inl rfl
  all_goals exact .inr (by simp [Shelf.withRequest, Shelf.request, Shelf.card, joined])

theorem Shelf.request_withRequest_none (x : Shelf) : (x.withRequest .none).request = .none :=
  or_self_iff.1 (x.request_withRequest .none)

theorem Shelf.withRequest_none_narrows (x : Shelf) : x.Narrows (x.withRequest .none) where
  selected r still := by
    rw [Shelf.offersUnlocked, Shelf.offersUnlocked, Shelf.candidates_withRequest]
    exact ⟨(x.selected_withRequest .none).symm.trans still, id⟩
  requested r still := by
    rw [Shelf.request_withRequest_none] at still
    cases still

theorem Shelf.withRequest_none_of_none (none : x.request = .none) : x.withRequest .none = x := by
  unfold Shelf.withRequest
  split
  · rename_i c joined
    rw [Shelf.request_of_joined joined] at none
    rw [← none]
    exact Shelf.withCard_eq joined
  · rfl

theorem State.shelf_dropRequest (h g : ShelfNo) (s : State) :
    (s.dropRequest h).shelf g = if h = g then (s.shelf h).withRequest .none else s.shelf g := by
  have dropped : (s.mapCard h fun c => { c with request := .none }).shelf g
      = if h = g then (s.shelf h).withRequest .none else s.shelf g := by
    rw [State.shelf_mapCard]
    rfl
  unfold State.dropRequest
  split
  · rename_i none
    rw [Shelf.withRequest_none_of_none none]
    split
    · rename_i same; rw [same]
    · rfl
  · rw [State.shelf_leavePassPending, dropped]
  · rw [State.shelf_post, State.shelf_leavePassPending, dropped]

theorem State.shelf_dropTarget (h g : ShelfNo) (r : RefNo) (s : State) :
    (s.dropTarget h r).shelf g
      = if h = g ∧ (s.shelf h).request.target = some r then (s.shelf h).withRequest .none else s.shelf g := by
  unfold State.dropTarget
  rcases (s.shelf h).request with _ | q | q
  · simp [SwitchRequest.target]
  all_goals by_cases same : q = r <;> simp [SwitchRequest.target, same, State.shelf_dropRequest]

theorem State.shelf_dropTarget_narrows (h : ShelfNo) (r : RefNo) (s : State) :
    (s.shelf h).Narrows ((s.dropTarget h r).shelf h) := by
  rw [State.shelf_dropTarget]
  split
  · exact Shelf.withRequest_none_narrows _
  · exact .refl _

theorem State.candidates_dropTarget (h : ShelfNo) (r : RefNo) (s : State) :
    ((s.dropTarget h r).shelf h).candidates = (s.shelf h).candidates := by
  rw [State.shelf_dropTarget]
  split
  · exact Shelf.candidates_withRequest _ _
  · rfl

/-- The request that names a reference is gone (R127). -/
theorem State.target_dropTarget_ne (h : ShelfNo) (r : RefNo) (s : State) :
    ((s.dropTarget h r).shelf h).request.target ≠ some r := by
  rw [State.shelf_dropTarget]
  split
  · rw [Shelf.request_withRequest_none]
    nofun
  · rename_i other
    exact fun target => other ⟨rfl, target⟩

/-! ## LOCKOUT -/

theorem State.shelf_setLockout (h g : ShelfNo) (r : RefNo) (on : Bool) (s : State) :
    (s.setLockout h r on).shelf g
      = if h = g then
          { s.shelf h with candidates := (s.shelf h).candidates.map fun e =>
              if e.ref = r then { e with lockout := on } else e }
        else s.shelf g := by
  rw [State.setLockout, State.shelf_leavePassPending, State.shelf_setShelf]

/-- The entries for other references stand as they did. -/
theorem Shelf.offersUnlocked_of_lockout {y : Shelf} {on : Bool} {q : RefNo}
    (list : y.candidates = x.candidates.map fun e => if e.ref = r then { e with lockout := on } else e)
    (other : on = true → q ≠ r) (offers : x.offersUnlocked q = true) : y.offersUnlocked q = true := by
  obtain ⟨e, mem, names, unlocked⟩ : ∃ e ∈ x.candidates, e.ref = q ∧ e.lockout = false := by
    simpa [Shelf.offersUnlocked] using offers
  have offered : ∃ e ∈ y.candidates, e.ref = q ∧ e.lockout = false := by
    rw [list]
    refine ⟨_, List.mem_map_of_mem mem, ?_⟩
    split
    · rename_i same
      refine ⟨names, ?_⟩
      cases on with
      | false => rfl
      | true => exact absurd (names.symm.trans same) (other rfl)
    · exact ⟨names, unlocked⟩
  simpa [Shelf.offersUnlocked] using offered

/-- A shelf whose entry is locked out, with the request for it removed and the shelf taken off it (R126, R127). -/
theorem lockedOut_narrows (s : State) (h : ShelfNo) (r : RefNo) :
    (s.shelf h).Narrows (shelfOff ((s.setLockout h r true).dropTarget h r) r h) := by
  have locked := s.shelf_setLockout h h r true
  rw [if_pos rfl] at locked
  have dropped := (s.setLockout h r true).shelf_dropTarget_narrows h r
  have free := (s.setLockout h r true).target_dropTarget_ne h r
  have list := (s.setLockout h r true).candidates_dropTarget h r
  rw [locked] at dropped list
  generalize (s.setLockout h r true).dropTarget h r = u at dropped free list ⊢
  have off := shelfOff_narrows u r h
  obtain ⟨offList, -⟩ := shelfOff_keeps u r h
  refine ⟨fun q still => ⟨(dropped.selected q (off.selected q still).1).1, ?_⟩,
    fun q still => ⟨(dropped.requested q (off.requested q still).1).1, ?_⟩⟩
  · exact Shelf.offersUnlocked_of_lockout (offList.trans list) fun _ same => selected_shelfOff_ne u r h (same ▸ still)
  · exact Shelf.offersUnlocked_of_lockout (offList.trans list) fun _ same => free (same ▸ (off.requested q still).1)

/-- A lockout takes the request and the selection off its reference, and leaves the other entries (R126, R127). -/
theorem State.lockOut_narrows (h : ShelfNo) (r : RefNo) (was on : Bool) (s : State) :
    Narrows s (s.lockOut h r was on) := by
  have move := s.lockOut_shelfMove h r was on
  have counts : KeepsCounts s (s.lockOut h r was on) := ⟨move.depthLimit, move.silenceLimit, move.pass, move.passCount⟩
  refine .of_one (h := h) counts move.refs (fun g other => ?_) ?_
  all_goals unfold State.lockOut
  · split_ifs
    · rfl
    · rw [State.shelf_takeOff, if_neg (Ne.symm other), State.shelf_dropTarget, if_neg (Ne.symm other ·.1),
        State.shelf_setLockout, if_neg (Ne.symm other)]
    · rw [State.shelf_setLockout, if_neg (Ne.symm other)]
  · split_ifs
    · exact .refl _
    · rw [State.shelf_takeOff, if_pos rfl]
      exact lockedOut_narrows s h r
    · have cleared := s.shelf_setLockout h h r false
      rw [if_pos rfl] at cleared
      rw [cleared]
      exact .of_offers rfl rfl fun q => Shelf.offersUnlocked_of_lockout rfl nofun

/-! ## CONFIGURE SHELF -/

theorem Shelf.offersUnlocked_of_offers (offers : x.offers r = true) : x.offersUnlocked r = true := by
  obtain ⟨e, entry, unlocked⟩ := (Option.any_eq_true _ _).1 offers
  obtain ⟨mem, names⟩ := Shelf.mem_of_entry entry
  exact List.any_eq_true.2 ⟨e, mem, by simpa [names] using unlocked⟩

/-- A request that stays under the new list is the one that stood, and the list offers its target (R75). -/
theorem Shelf.target_keptRequest {q : SwitchRequest} (kept : (x.keptRequest q).target = some r) :
    q.target = some r ∧ x.offers r = true := by
  rcases q with _ | a | a <;> simp only [Shelf.keptRequest] at kept
  case none => simp [SwitchRequest.target] at kept
  all_goals
    split_ifs at kept with offers
    · obtain rfl : a = r := by simpa [SwitchRequest.target] using kept
      exact ⟨rfl, offers⟩
    · simp [SwitchRequest.target] at kept

/-- A selection that stays once the card is settled is one that stood, and the list offers it (R75, R76). -/
theorem State.selected_settledTiming {t : Timing} {limit before now : Nat} (settled : ∀ q o e, t ≠ .acquire q o e)
    (still : (s.settledTiming h (t.resettled limit before now)).selected = some r) :
    t.selected = some r ∧ (s.shelf h).offers r = true := by
  rcases t with _ | ⟨q, o, e⟩ | ⟨q, since⟩ | o
  case freeRun => simp [Timing.resettled, State.settledTiming, Timing.selected] at still
  case acquire => exact absurd rfl (settled q o e)
  case locked =>
    simp only [Timing.resettled, State.settledTiming] at still
    split_ifs at still with offers
    · obtain rfl : q = r := by simpa [Timing.selected] using still
      exact ⟨rfl, offers⟩
    · simp [selected_fallbackOf] at still
  case holdover =>
    rw [Timing.resettled] at still
    split_ifs at still <;> simp [State.settledTiming, Timing.selected] at still

/-- What the settled card still selects and requests the new list offers (R75, R76). -/
theorem State.shelf_reconfigureShelf_narrows (settled : (s.shelf h).acquiring = false) (cfg : ShelfConfig)
    (list : List Candidate) : (s.shelf h).Narrows ((s.reconfigureShelf h cfg list).shelf h) := by
  have written := s.shelf_writeShelfConfig h cfg list
  rcases admission : (s.shelf h).admission with _ | _ | c
  case joined =>
    have joined : (s.writeShelfConfig h cfg list).shelf h = ((s.writeShelfConfig h cfg list).shelf h).withCard c :=
      (Shelf.withCard_eq (by rw [written]; exact admission)).symm
    have timing := Shelf.timing_of_joined admission
    have still (q : RefNo) (o : Origin) (e : SecondTimer) : c.timing ≠ .acquire q o e := fun acquiring => by
      simp [Shelf.acquiring, timing, acquiring] at settled
    rw [(State.reconfigureShelf_settlesShelf rfl joined settled rfl).shelf, State.settledAdmission]
    split_ifs
    · exact .of_none rfl rfl
    · exact .of_none rfl rfl
    · refine ⟨fun q selected => ?_, fun q requested => ?_⟩
      · obtain ⟨before, offers⟩ := State.selected_settledTiming still selected
        exact ⟨(Shelf.selected_of_timing timing).trans before, fun _ => Shelf.offersUnlocked_of_offers offers⟩
      · obtain ⟨before, offers⟩ := Shelf.target_keptRequest requested
        rw [Shelf.request_of_joined admission]
        exact ⟨before, fun _ => Shelf.offersUnlocked_of_offers offers⟩
  all_goals
    rw [State.reconfigureShelf_of_not_joined (by simp [Shelf.isJoined, Shelf.card, admission]),
      State.shelf_leavePassPending, written]
    exact .of_none (by simp [Shelf.selected, Shelf.timing, Shelf.card, admission])
      (by simp [Shelf.request, Shelf.card, admission])

theorem State.reconfigureShelf_narrows (settled : (s.shelf h).acquiring = false) (cfg : ShelfConfig)
    (list : List Candidate) : Narrows s (s.reconfigureShelf h cfg list) := by
  obtain ⟨settings, -, -, refs, others⟩ := s.reconfigureShelf_onlyShelf h cfg list
  have counts := KeepsSettings.keepsCounts settings
  refine .of_one ⟨counts.depthLimit, counts.silenceLimit, counts.pass, counts.passCount⟩ refs (fun g other => ?_)
    (State.shelf_reconfigureShelf_narrows settled cfg list)
  exact (others g other).trans (s.setShelf_keepsOtherShelves h _ g other)

/-! ## HOLD, and second events -/

theorem State.setHolds_narrows (named : ShelfNo → Bool) (on : Bool) (s : State) : Narrows s (s.setHolds named on) where
  toKeepsCounts := by constructor <;> simp only [State.setHolds]
  shelf h := by
    rw [State.shelf_setHolds]
    split
    · exact .of_same rfl rfl rfl
    · exact .refl _
  home _ r _ := State.feedHome_congr (by rw [State.ref_congr (s.setHolds_refs named on)])
  usable _ r _ := by rw [State.ref_congr (s.setHolds_refs named on)]; exact id

theorem State.secondStep_narrows (s : State) : Narrows s s.secondStep where
  toKeepsCounts := by constructor <;> rw [State.secondStep_eq]
  shelf h := by
    rw [State.shelf_secondStep]
    exact .reach _ _
  home _ r _ := State.feedHome_congr (by rw [State.ref_secondStep]; rfl)
  usable _ r _ := by rw [State.ref_secondStep]; exact id

end

end Sys2Proof.Machine

/-!
SUPPORT. The visits and the requests that turn a shelf to another reference, the limits, the passes and the resets: what
they leave of the selections and the chains.
-/

namespace Sys2Proof.Machine

open Sys2Proof

/-! ## The reference chosen -/

section
variable {s t : State} {h : ShelfNo} {r : RefNo}

/-- A reference chosen is named by an eligible entry, or it is the target of FORCE, usable and without a loop (R121). -/
theorem State.choice_cases (chosen : s.choice h = some r) :
    (∃ e ∈ (s.shelf h).candidates, s.eligible h e = true ∧ e.ref = r)
      ∨ ((s.shelf h).request = .forced r ∧ (s.ref r).run.availability.usable = true ∧ s.loopFree h r = true) := by
  rcases request : (s.shelf h).request with _ | q | q
  case none =>
    rw [State.choice_of_none request] at chosen
    exact .inl (State.exists_of_autoChoice chosen)
  case forced =>
    rw [State.choice_of_forced request] at chosen
    split_ifs at chosen with fits
    obtain rfl := Option.some.inj chosen
    exact .inr ⟨rfl, fits⟩
  case manual =>
    rw [State.choice_of_manual request] at chosen
    split_ifs at chosen with eligible
    · obtain rfl := Option.some.inj chosen
      exact .inl (State.exists_of_eligibleRef eligible)
    · exact .inl (State.exists_of_autoChoice chosen)

/-- A reference chosen makes no loop and no chain above the depth limit (R98). -/
theorem State.loopFree_of_choice (chosen : s.choice h = some r) : s.loopFree h r = true := by
  rcases State.choice_cases chosen with ⟨e, -, eligible, rfl⟩ | ⟨-, -, loopFree⟩
  · obtain ⟨-, -, -, -, -, loopFree⟩ := (s.eligible_iff h e).1 eligible
    exact loopFree
  · exact loopFree

theorem State.usable_of_choice (chosen : s.choice h = some r) : (s.ref r).run.availability.usable = true := by
  rcases State.choice_cases chosen with ⟨e, -, eligible, rfl⟩ | ⟨-, usable, -⟩
  · obtain ⟨-, usable, -⟩ := (s.eligible_iff h e).1 eligible
    exact usable
  · exact usable

theorem Shelf.offersUnlocked_of_mem {x : Shelf} {e : Candidate} (mem : e ∈ x.candidates)
    (unlocked : e.lockout = false) : x.offersUnlocked e.ref = true := List.any_eq_true.2 ⟨e, mem, by simp [unlocked]⟩

/-- A reference chosen stands in the list and is not locked out: of a forced target the invariant says so (R120). -/
theorem State.offersUnlocked_of_choice (sound : s.selectionSound h) (chosen : s.choice h = some r) :
    (s.shelf h).offersUnlocked r = true := by
  rcases State.choice_cases chosen with ⟨e, mem, eligible, rfl⟩ | ⟨request, -, -⟩
  · obtain ⟨-, -, unlocked, -⟩ := (s.eligible_iff h e).1 eligible
    exact Shelf.offersUnlocked_of_mem mem unlocked
  · obtain ⟨-, requested⟩ := (s.selectionSound_iff h).1 sound
    exact requested r (by rw [request]; rfl)

/-- A chain through a hop to a reference without a loop is within the depth limit (R98). -/
theorem State.feedFits_of_loopFree {k : ShelfNo} (loopFree : s.loopFree h r = true) (home : s.feedHome r = some k) :
    s.feedFits h k = true := by
  unfold State.feedHome at home
  split_ifs at home with feed
  rwa [State.loopFree_of_feed feed home] at loopFree

theorem State.nextOnChain_congr (selected : (t.shelf h).selected = (s.shelf h).selected)
    (ref : ∀ r, t.ref r = s.ref r) : t.nextOnChain h = s.nextOnChain h := by
  have home : t.feedHome = s.feedHome := funext fun r => State.feedHome_congr (by rw [ref r])
  rw [State.nextOnChain, State.nextOnChain, selected, home]

/-! ## Shelves turned to another reference -/

theorem State.selectionSound_congr (shelf : t.shelf h = s.shelf h) (refs : t.refs = s.refs) :
    t.selectionSound h ↔ s.selectionSound h := by
  simp only [State.selectionSound_iff, shelf, State.ref_congr refs]

/-- One shelf turns to the reference chosen for it: its own entry, usable, and no hop that closes a loop or passes the
depth limit. -/
theorem OnlyShelf.keeps_of_choice (only : OnlyShelf h s t) (chosen : s.choice h = some r)
    (selects : (t.shelf h).selected = some r) (list : (t.shelf h).candidates = (s.shelf h).candidates)
    (requested : ∀ q, (t.shelf h).request.target = some q → (s.shelf h).request.target = some q) :
    KeepsSelections s t := by
  obtain ⟨settings, -, -, refs, others⟩ := only
  have counts := KeepsSettings.keepsCounts settings
  refine ⟨fun sound g => ?_, fun sound => ?_⟩
  · by_cases same : g = h
    · subst same
      obtain ⟨-, before⟩ := (s.selectionSound_iff g).1 (sound g)
      refine (t.selectionSound_iff g).2 ⟨fun q still => ?_, fun q still => ?_⟩ <;>
        rw [Shelf.offersUnlocked, list]
      · obtain rfl : r = q := Option.some.inj (selects.symm.trans still)
        rw [State.ref_congr refs]
        exact ⟨State.offersUnlocked_of_choice (sound g) chosen, State.usable_of_choice chosen⟩
      · exact before q (requested q still)
    · exact (State.selectionSound_congr (others g same) refs).2 (sound g)
  · obtain ⟨limits, depth⟩ := s.chainsSound_iff.1 sound
    refine t.chainsSound_iff.2 ⟨counts.sound limits, fun u => ?_⟩
    have ref := State.ref_congr refs
    have hop : t.nextOnChain h = s.feedHome r := by
      rw [State.nextOnChain, selects]
      exact State.feedHome_congr (by rw [ref])
    have rest (g : ShelfNo) (other : g ≠ h) : t.nextOnChain g = s.nextOnChain g :=
      State.nextOnChain_congr (by rw [others g other]) ref
    rw [counts.depthLimit]
    rcases home : s.feedHome r with _ | k
    · refine (State.depth_le_of_fewer (fun g k next => ?_) u).trans (depth u)
      by_cases same : g = h
      · rw [same, hop, home] at next
        cases next
      · rwa [rest g same] at next
    · have fits := State.feedFits_of_loopFree (State.loopFree_of_choice chosen) home
      obtain ⟨-, -, apart, within⟩ := (s.feedFits_iff h k).1 fits
      exact (State.depth_le_of_hop (hop.trans home) rest apart u).trans (max_le (depth u) within)

/-- A visit leaves a shelf on nothing, on the reference it followed, or on the one chosen (R104). -/
theorem selected_visitOutcome (s : State) (h : ShelfNo) (choice : Option RefNo) (timing : Timing) :
    (visitOutcome s h choice timing).selected = none
      ∨ (visitOutcome s h choice timing).selected = timing.selected
      ∨ ∃ r, choice = some r ∧ (visitOutcome s h choice timing).selected = some r := by
  rcases timing with _ | ⟨q, o, expiry⟩ | ⟨q, since⟩ | o
  case acquire => exact .inr (.inl rfl)
  case locked =>
    rcases choice with _ | r
    · exact .inl (selected_fallbackOf s h (.locked q since))
    · by_cases again : r = q
      · exact .inr (.inl (by rw [visitOutcome, if_pos again]))
      · exact .inr (.inr ⟨r, rfl, by rw [visitOutcome, if_neg again]; rfl⟩)
  all_goals
    rcases choice with _ | r
    · exact .inl rfl
    · exact .inr (.inr ⟨r, rfl, rfl⟩)

/-- A visit drops the switch request or leaves it (R123). -/
theorem State.visitedRequest_cases (s : State) (h : ShelfNo) (q : SwitchRequest) :
    s.visitedRequest h q = .none ∨ s.visitedRequest h q = q := by
  rcases q with _ | q | q
  case manual =>
    rw [State.visitedRequest]
    split
    · exact .inr rfl
    · exact .inl rfl
  all_goals exact .inr rfl

theorem State.visitUnheld_keepsSelections {c : JoinedCard} (joined : (s.shelf h).admission = .joined c) :
    KeepsSelections s (s.visitUnheld h) := by
  have card : s.shelf h = (s.shelf h).withCard c := (Shelf.withCard_eq joined).symm
  have step := State.visitUnheld_step card
  have request := s.visitedRequest_cases h c.request
  have outcome := selected_visitOutcome s h (s.choice h) c.timing
  rw [← or_assoc] at outcome
  rcases outcome with stays | ⟨r, chosen, turned⟩
  · refine (step.narrows ?_).keeps
    have shelf (d : JoinedCard) := Shelf.Narrows.of_card (x := s.shelf h) (c := c) (d := d)
    rw [Shelf.withCard_eq joined] at shelf
    exact shelf _ stays request
  · refine step.only.keeps_of_choice chosen (by rw [step.shelf]; exact turned) (by rw [step.shelf]; rfl)
      fun q still => ?_
    rw [step.shelf] at still
    have still : (s.visitedRequest h c.request).target = some q := still
    rcases request with dropped | kept
    · rw [dropped] at still
      cases still
    · rwa [Shelf.request_of_joined joined, ← kept]

/-- A held shelf records the reference chosen and follows the one it did (R111, R130). -/
theorem State.visitHeld_narrows (h : ShelfNo) (s : State) : Narrows s (s.visitHeld h) := by
  unfold State.visitHeld State.mapCard
  split
  · rename_i c card
    have shelf : Shelf.Narrows _ ((s.shelf h).withCard { c with proposed := s.choice h }) :=
      .of_card (c := c) (.inr rfl) (.inr rfl)
    rw [Shelf.withCard_eq (((s.shelf h).card_eq_some_iff c).1 card)] at shelf
    exact State.setShelf_narrows shelf
  · exact .refl s

theorem State.visit_keepsSelections (h : ShelfNo) (s : State) : KeepsSelections s (s.visit h) := by
  unfold State.visit
  split_ifs with visitable held
  · exact (s.visitHeld_narrows h).keeps
  · obtain ⟨joined, -⟩ := (Shelf.visitable_iff _).1 visitable
    obtain ⟨c, card⟩ := Option.isSome_iff_exists.1 joined
    exact State.visitUnheld_keepsSelections (((s.shelf h).card_eq_some_iff c).1 card)
  · exact .refl s

/-! ## SWITCH -/

theorem State.shelf_setRequest (h g : ShelfNo) (q : SwitchRequest) (s : State) :
    (s.setRequest h q).shelf g = if h = g then (s.shelf h).withRequest q else s.shelf g := by
  rw [State.setRequest, State.shelf_leavePassPending, State.shelf_mapCard]
  rfl

/-- A request for a reference that the list offers is written (R119, R120). -/
theorem State.setRequest_keepsSelections {q : SwitchRequest}
    (offers : ∀ r, q.target = some r → (s.shelf h).offersUnlocked r = true) :
    KeepsSelections s (s.setRequest h q) := by
  have selected (g : ShelfNo) : ((s.setRequest h q).shelf g).selected = (s.shelf g).selected := by
    rw [State.shelf_setRequest]
    split
    · rename_i same
      rw [Shelf.selected_withRequest, same]
    · rfl
  have list (g : ShelfNo) (r : RefNo) :
      ((s.setRequest h q).shelf g).offersUnlocked r = (s.shelf g).offersUnlocked r := by
    rw [State.shelf_setRequest]
    split
    · rename_i same
      rw [Shelf.offersUnlocked, Shelf.candidates_withRequest, same]
      rfl
    · rfl
  have move := s.setRequest_shelfMove h q
  refine ⟨fun sound g => ?_, fun sound => ?_⟩
  · obtain ⟨follows, before⟩ := (s.selectionSound_iff g).1 (sound g)
    refine (State.selectionSound_iff _ g).2 ⟨fun r still => ?_, fun r still => ?_⟩ <;> rw [list]
    · rw [move.ref]
      exact follows r ((selected g).symm.trans still)
    · rw [State.shelf_setRequest] at still
      split at still
      · rename_i same
        subst same
        rcases (s.shelf h).request_withRequest q with written | away
        · exact offers r (written ▸ still)
        · rw [away] at still
          cases still
      · exact before r still
  · obtain ⟨limits, depth⟩ := s.chainsSound_iff.1 sound
    have counts : KeepsCounts s (s.setRequest h q) :=
      ⟨move.depthLimit, move.silenceLimit, move.pass, move.passCount⟩
    refine (State.chainsSound_iff _).2 ⟨counts.sound limits, fun u => ?_⟩
    rw [counts.depthLimit]
    have next (g : ShelfNo) := State.nextOnChain_congr (selected g) move.ref
    exact (State.depth_le_of_fewer (fun g k hop => (next g).symm.trans hop) u).trans (depth u)

/-- SWITCH passes its tests for an entry that is not locked out (R119). -/
theorem State.offersUnlocked_of_fit {force : Bool} (fit : s.switchUnfit h force r = none) :
    (s.shelf h).offersUnlocked r = true := by
  unfold State.switchUnfit at fit
  split at fit
  · cases fit
  · rename_i e entry
    obtain ⟨mem, rfl⟩ := Shelf.mem_of_entry entry
    split_ifs at fit with locked
    all_goals exact Shelf.offersUnlocked_of_mem mem (by simpa using locked)

/-! ## The limits, the passes and the resets -/

/-- The shelves and what the references hold stand, and the limits and the count are written. -/
theorem KeepsSelections.of_counts (shelves : t.engine.shelves = s.engine.shelves) (ref : ∀ r, t.ref r = s.ref r)
    (counts : s.engine.CountsSound → t.engine.CountsSound)
    (within : (∀ h, s.depth h ≤ s.engine.depthLimit) → ∀ h, s.depth h ≤ t.engine.depthLimit) :
    KeepsSelections s t where
  selections sound g := by
    refine (t.selectionSound_iff g).2 ?_
    simpa only [State.shelf_congr shelves, ref] using (s.selectionSound_iff g).1 (sound g)
  chains sound := by
    obtain ⟨limits, depth⟩ := s.chainsSound_iff.1 sound
    have next (g : ShelfNo) := State.nextOnChain_congr (by rw [State.shelf_congr shelves g]) ref
    exact t.chainsSound_iff.2 ⟨counts limits, fun u =>
      (State.depth_le_of_fewer (fun g k hop => (next g).symm.trans hop) u).trans (within depth u)⟩

/-- No JOINED shelf is deeper than the depth limit asked for, and the others have no chain (R116). -/
theorem State.setLimits_keepsSelections {depth persistence silence : Nat} (free : s.deeperThan depth = false)
    (depths : 1 ≤ depth ∧ depth ≤ 6) (silences : 1 ≤ silence ∧ silence ≤ 10) :
    KeepsSelections s (s.setLimits depth persistence silence) := by
  refine .of_counts rfl (fun _ => rfl) ?_ fun _ h => ?_
  · rintro ⟨-, -, -, -, counts⟩
    exact ⟨depths.1, depths.2, silences.1, silences.2, counts⟩
  · change s.depth h ≤ depth
    by_contra deep
    have joined : (s.shelf h).isJoined = false := by
      by_contra joined
      rw [(s.deeperThan_iff depth).2 ⟨h, by simpa using joined, not_le.1 deep⟩] at free
      cases free
    rw [State.depth_of_unselected (by rw [Shelf.selected, Shelf.timing_of_not_joined joined]; rfl)] at deep
    exact deep (Nat.zero_le depth)

theorem State.startPass_keepsSelections (visits : List ShelfNo) (idle : s.engine.pass = none) :
    KeepsSelections s { s with engine := s.engine.startPass visits } := by
  refine .of_counts rfl (fun _ => rfl) ?_ id
  rintro ⟨least, most, silent, loud, -, few, -⟩
  exact ⟨least, most, silent, loud, few idle, nofun, fun _ => Nat.le_add_left 1 _⟩

theorem State.advance_keepsSelections (s : State) : KeepsSelections s { s with engine := s.engine.advance } := by
  refine .of_counts rfl (fun _ => rfl) ?_ id
  rintro ⟨least, most, silent, loud, count, few, some⟩
  exact ⟨least, most, silent, loud, count, fun idle => few (by simpa [Engine.advance] using idle),
    fun running => some (by simpa [Engine.advance] using running)⟩

theorem State.endPass_keepsSelections (s : State) : KeepsSelections s s.endPass := by
  have restarted (pending : Bool) : KeepsSelections s
      { s with engine := { s.engine with pass := none, passPending := pending, passCount := 0 } } := by
    refine .of_counts rfl (fun _ => rfl) ?_ id
    rintro ⟨least, most, silent, loud, -⟩
    exact ⟨least, most, silent, loud, Nat.zero_le 8, fun _ => Nat.zero_lt_succ 7, (absurd rfl ·)⟩
  unfold State.endPass
  split_ifs with clean few
  · exact restarted s.engine.passPending
  · refine .of_counts rfl (fun _ => rfl) ?_ id
    rintro ⟨least, most, silent, loud, count, -⟩
    exact ⟨least, most, silent, loud, count, fun _ => few, (absurd rfl ·)⟩
  · exact (restarted false).trans (State.post_narrows .evalLimit _).keeps

/-- Neither the Reference Unit nor the Selection Engine is written. -/
theorem KeepsSelections.of_tables (refs : t.refs = s.refs) (engine : t.engine = s.engine) : KeepsSelections s t :=
  (Narrows.of_tables refs engine).keeps

/-- The values after reset are sound, whatever stood before. -/
theorem KeepsSelections.of_reset (refs : t.refs = State.reset.refs) (engine : t.engine = State.reset.engine) :
    KeepsSelections s t := by
  have same := KeepsSelections.of_tables refs engine
  exact ⟨fun _ => same.selections State.selectionsSound_reset, fun _ => same.chains State.chainsSound_reset⟩

end

end Sys2Proof.Machine

/-!
SUPPORT. The commands and the step keep the selections and the chains sound.
-/

namespace Sys2Proof.Machine

open Sys2Proof

/-! ## Requests -/

/-- A request is taken: its owning block keeps the selections and the chains, and the transmit state holds none. -/
theorem takeRequest_keepsSelections {named : Nat → Bool} {serve : List Byte → State → Answer} {s : State}
    (hs : ∀ body, KeepsSelections s (serve body s).state) :
    AnswersOnly (KeepsSelections s) (takeRequest named serve s) :=
  takeRequest_answersOnly (fun _ _ kept => kept.trans (.of_tables rfl rfl)) (.refl s) hs

/-- A request after which no shelf selects or requests more. -/
theorem takeRequest_narrows {named : Nat → Bool} {serve : List Byte → State → Answer} {s : State}
    (hs : ∀ body, Narrows s (serve body s).state) : AnswersOnly (KeepsSelections s) (takeRequest named serve s) :=
  takeRequest_keepsSelections fun body => (hs body).keeps

/-- A request that is answered from the state as it is. -/
theorem takeRequest_of_state_keepsSelections {named : Nat → Bool} {serve : List Byte → State → Answer} {s : State}
    (hs : ∀ body, (serve body s).state = s) : AnswersOnly (KeepsSelections s) (takeRequest named serve s) :=
  takeRequest_keepsSelections fun body => (hs body).symm ▸ .refl s

theorem serveConfigureReference_narrows (body : List Byte) (s : State) :
    Narrows s (serveConfigureReference body s).state := by
  rcases serveConfigureReference_cases body s with e | ⟨r, unused, -, -, e⟩ <;> rw [e]
  · exact .refl s
  · exact State.regrading_narrows (State.reconfigure_narrows _ unused)

theorem serveClearRestore_narrows (body : List Byte) (s : State) : Narrows s (serveClearRestore body s).state := by
  rcases serveClearRestore_cases body s with e | ⟨r, e⟩ <;> rw [e]
  · exact .refl s
  · exact s.clearRestoring_narrows r

theorem serveSetOscillatorTrim_narrows (body : List Byte) (s : State) :
    Narrows s (serveSetOscillatorTrim body s).state := by
  rcases serveSetOscillatorTrim_cases body s with e | ⟨x, e⟩ <;> rw [e]
  · exact .refl s
  · exact .of_tables rfl rfl

theorem serveLoadCodePlan_narrows (body : List Byte) (s : State) : Narrows s (serveLoadCodePlan body s).state := by
  rcases serveLoadCodePlan_cases body s with e | ⟨p, -, e⟩ <;> rw [e]
  · exact .refl s
  · exact State.regrading_narrows (s.setPlan_narrows p _)

theorem serveSetGradeOverride_narrows (body : List Byte) (s : State) :
    Narrows s (serveSetGradeOverride body s).state := by
  rcases serveSetGradeOverride_cases body s with e | ⟨r, g, -, -, e⟩ <;> rw [e]
  · exact .refl s
  · exact State.regrading_narrows (State.setRun_narrows rfl)

theorem serveConfigureShelf_narrows (body : List Byte) (s : State) :
    Narrows s (serveConfigureShelf body s).state := by
  rcases serveConfigureShelf_cases body s with e | ⟨h, settled, -, -, e⟩ <;> rw [e]
  · exact .refl s
  · exact State.regrading_narrows (State.reconfigureShelf_narrows settled _ _)

theorem serveSetSelectionLimits_keepsSelections (body : List Byte) (s : State) :
    KeepsSelections s (serveSetSelectionLimits body s).state := by
  rcases serveSetSelectionLimits_cases body s with e | ⟨_, _, _, free, e⟩ <;> rw [e]
  · exact .refl s
  · exact State.setLimits_keepsSelections free (clampNat_mem 1 6 _ (by decide)) (clampNat_mem 1 10 _ (by decide))

theorem serveSwitch_keepsSelections (body : List Byte) (s : State) : KeepsSelections s (serveSwitch body s).state := by
  rcases serveSwitch_cases body s with e | ⟨h, -, e⟩ | ⟨h, force, r, -, fit, e⟩ <;> rw [e]
  · exact .refl s
  · exact State.setRequest_keepsSelections nofun
  · refine State.setRequest_keepsSelections fun q target => ?_
    obtain rfl : r = q := by cases force <;> exact Option.some.inj target
    exact State.offersUnlocked_of_fit fit

theorem serveLockout_narrows (body : List Byte) (s : State) : Narrows s (serveLockout body s).state := by
  rcases serveLockout_cases body s with e | ⟨h, r, entry, on, -, e⟩ <;> rw [e]
  · exact .refl s
  · exact State.regrading_narrows (s.lockOut_narrows h r _ on)

theorem serveHold_narrows (body : List Byte) (s : State) : Narrows s (serveHold body s).state := by
  rcases serveHold_cases body s with e | ⟨named, on, e⟩ <;> rw [e]
  · exact .refl s
  · exact s.setHolds_narrows named on

theorem serveSetHighway_narrows (body : List Byte) (s : State) : Narrows s (serveSetHighway body s).state := by
  rcases serveSetHighway_cases body s with e | ⟨mode, enable, e⟩ <;> rw [e]
  · exact .refl s
  · exact .of_tables rfl rfl

theorem serveReadHighway_narrows (body : List Byte) (s : State) : Narrows s (serveReadHighway body s).state := by
  rcases serveReadHighway_cases body s with e | e <;> rw [e]
  · exact .refl s
  · exact .of_tables rfl rfl

theorem serveInjectBlock_narrows (body : List Byte) (s : State) : Narrows s (serveInjectBlock body s).state := by
  rcases serveInjectBlock_cases body s with e | ⟨n, words, -, e⟩ <;> rw [e]
  · exact .refl s
  · exact State.feedWords_induction n (fun w u kept => kept.trans (u.feedWord_narrows n w)) words s (.refl s)

theorem serveSetReporting_narrows (body : List Byte) (s : State) : Narrows s (serveSetReporting body s).state := by
  rcases serveSetReporting_cases body s with e | ⟨_, _, e⟩ <;> rw [e]
  · exact .refl s
  · exact .of_tables rfl rfl

theorem serveCollect_narrows (body : List Byte) (s : State) : Narrows s (serveCollect body s).state := by
  rcases serveCollect_cases body s with e | ⟨_, e⟩ <;> rw [e]
  · exact .refl s
  · exact .of_tables rfl rfl

theorem serveEndService_narrows (body : List Byte) (s : State) : Narrows s (serveEndService body s).state := by
  rcases serveEndService_cases body s with e | ⟨-, e⟩ <;> rw [e]
  · exact .refl s
  · exact .of_tables rfl rfl

theorem serveSetMode_narrows (body : List Byte) (s : State) : Narrows s (serveSetMode body s).state := by
  rcases serveSetMode_cases body s with e | ⟨m, e⟩ <;> rw [e]
  · exact .refl s
  · exact s.changeMode_narrows m

/-! ## Bytes and pulses -/

theorem State.takeByte_narrows (b : Byte) (s : State) : Narrows s (s.takeByte b) := by
  have completed (a : Assembly) (first second : Byte) : Narrows s (s.frameComplete a first second) := by
    unfold State.frameComplete State.bufferFrame
    split_ifs
    · exact .of_tables rfl rfl
    · exact .of_tables (by simp) (by simp)
    · exact .of_tables (by simp) (by simp)
  unfold State.takeByte
  split
  · split
    · exact .of_tables rfl rfl
    · exact .refl s
  · split <;> exact .of_tables rfl rfl
  · exact .of_tables rfl rfl
  · exact .of_tables rfl rfl
  · exact completed _ _ _

theorem State.takeFaultyByte_narrows (s : State) : Narrows s s.takeFaultyByte := by
  unfold State.takeFaultyByte
  split
  · exact .refl s
  · exact .of_tables (by simp) (by simp)

theorem State.countMiss_narrows (f : Framing) (s : State) : Narrows s (s.countMiss f) := by
  unfold State.countMiss
  split
  · exact .of_tables (by simp [State.loseHighway]) (by simp [State.loseHighway])
  · exact .of_tables rfl rfl

theorem State.startFrame_narrows (pulse : Bool) (f : Framing) (s : State) : Narrows s (s.startFrame pulse f) := by
  unfold State.startFrame
  split_ifs
  · exact .of_tables rfl rfl
  · exact .of_tables rfl rfl
  · exact s.countMiss_narrows _

/-- A command that is taken while the unit is not held in reset. -/
theorem event_narrows {s : State} {f : State → State} (kept : Narrows s (f s)) :
    AnswersOnly (KeepsSelections s) (event s f) := event_answersOnly (.refl s) kept.keeps

theorem execByteReceived_keepsSelections (value : Byte) (stopHigh : Bool) (s : State) :
    AnswersOnly (KeepsSelections s) (execByteReceived value stopHigh s) := by
  refine event_narrows ?_
  split
  · exact s.takeByte_narrows value
  · exact s.takeFaultyByte_narrows

theorem execQhFrameStart_keepsSelections (pulse : Bool) (s : State) :
    AnswersOnly (KeepsSelections s) (execQhFrameStart pulse s) := by
  refine event_narrows ?_
  split
  · split
    · exact s.startFrame_narrows pulse _
    · exact .refl s
  · exact .refl s

theorem execQhSync_keepsSelections (s : State) : AnswersOnly (KeepsSelections s) (execQhSync s) := by
  refine event_narrows ?_
  split
  · split
    · exact .refl s
    · exact .of_tables (by simp [State.realign]) (by simp [State.realign])
  · exact .refl s

theorem execQhRecovered_keepsSelections (s : State) : AnswersOnly (KeepsSelections s) (execQhRecovered s) := by
  refine event_narrows ?_
  split
  · exact .refl s
  · exact .of_tables (by simp [State.recoverHighway]) (by simp [State.recoverHighway])

theorem execWordReceived_keepsSelections (slot : Nat) (bits : Byte) (s : State) :
    AnswersOnly (KeepsSelections s) (execWordReceived slot bits s) := by
  refine onSlot_answersOnly fun n => event_narrows ?_
  split
  · rename_i f _
    have passed : Narrows s (s.passWord n f) := .of_tables rfl rfl
    split
    · exact passed.trans (State.feedWord_narrows n _ _)
    · exact .refl s
  · exact .refl s

/-! ## Events of one reference, one shelf or one slot -/

/-- An event that is taken when it is due. -/
theorem eventIf_keepsSelections {d : Bool} {s : State} {f : State → State}
    (kept : d = true → KeepsSelections s (f s)) : AnswersOnly (KeepsSelections s) (eventIf d s f) :=
  eventIf_answersOnly (.refl s) kept

theorem eventIf_narrows {d : Bool} {s : State} {f : State → State} (kept : d = true → Narrows s (f s)) :
    AnswersOnly (KeepsSelections s) (eventIf d s f) := eventIf_keepsSelections fun due => (kept due).keeps

/-- A due event that hands on the grades it changes. -/
theorem eventIf_regrading_narrows {d : Bool} {s : State} {f : State → State} (kept : d = true → Narrows s (f s)) :
    AnswersOnly (KeepsSelections s) (eventIf d s (State.regrading f)) :=
  eventIf_narrows fun due => State.regrading_narrows (kept due)

theorem execEdge_keepsSelections (r : Nat) (s : State) : AnswersOnly (KeepsSelections s) (execEdge r s) := by
  refine onRef_answersOnly fun r => eventIf_narrows fun _ => ?_
  have sampled : Narrows s (s.samplePin r) := (s.setChan_sameTables r _).narrows
  split
  · exact sampled
  · exact sampled.trans (State.regrading_narrows (State.takeEdge_narrows r _))

theorem State.loseSignal_narrows (r : RefNo) (s : State) : Narrows s (s.loseSignal r) :=
  State.regrading_narrows (s.setChanTaking_narrows r _)

theorem execRefusalMarkRunOut_keepsSelections (h r : Nat) (s : State) :
    AnswersOnly (KeepsSelections s) (execRefusalMarkRunOut h r s) :=
  onShelf_answersOnly fun h => onRef_answersOnly fun r => eventIf_narrows fun _ =>
    (s.disarmMark_narrows h r).trans (State.leavePassPending_narrows _)

theorem execAcquireExpiry_keepsSelections (h : Nat) (s : State) :
    AnswersOnly (KeepsSelections s) (execAcquireExpiry h s) :=
  onShelf_answersOnly fun _ => eventIf_regrading_narrows State.timeOut_narrows

theorem execHoldoverAging_keepsSelections (h : Nat) (s : State) :
    AnswersOnly (KeepsSelections s) (execHoldoverAging h s) :=
  onShelf_answersOnly fun _ => eventIf_regrading_narrows State.ageHoldover_narrows

theorem execPassStart_keepsSelections (s : State) : AnswersOnly (KeepsSelections s) (execPassStart s) := by
  refine eventIf_keepsSelections fun due => s.startPass_keepsSelections _ ?_
  rw [Bool.and_eq_true, Option.isNone_iff_eq_none] at due
  exact due.2

theorem execPassVisit_keepsSelections (s : State) : AnswersOnly (KeepsSelections s) (execPassVisit s) := by
  refine event_answersOnly (.refl s) ?_
  split
  · rename_i h _
    have visited := s.advance_keepsSelections.trans (State.visit_keepsSelections h _)
    exact visited.trans (State.handOnGrades_narrows _ _).keeps
  · exact .refl s

theorem execCommandBlockStart_keepsSelections (slot : Nat) (s : State) :
    AnswersOnly (KeepsSelections s) (execCommandBlockStart slot s) := by
  unfold execCommandBlockStart
  split
  · exact eventIf_narrows fun _ => .of_tables rfl rfl
  · exact answersOnly_fault _ _

theorem State.startQuality_narrows (j : Fin 16) (s : State) : Narrows s (s.startQuality j) := by
  unfold State.startQuality
  split <;> exact .of_tables rfl rfl

theorem execQualityBlockStart_keepsSelections (slot : Nat) (s : State) :
    AnswersOnly (KeepsSelections s) (execQualityBlockStart slot s) := by
  unfold execQualityBlockStart
  split
  · exact eventIf_narrows fun _ => s.startQuality_narrows _
  · exact answersOnly_fault _ _

theorem execTickEvent_keepsSelections (s : State) : AnswersOnly (KeepsSelections s) (execTickEvent s) :=
  eventIf_narrows fun _ => .of_tables rfl rfl

theorem execDhFrameStart_keepsSelections (s : State) : AnswersOnly (KeepsSelections s) (execDhFrameStart s) :=
  eventIf_narrows fun _ => .of_tables rfl rfl

/-! ## Resets -/

theorem State.resetBy_keepsSelections (c : ResetCause) (s : State) : KeepsSelections s (s.resetBy c) :=
  .of_reset rfl rfl

theorem State.endReply_keepsSelections (s : State) : KeepsSelections s s.endReply := by
  unfold State.endReply
  split
  · split
    · exact s.resetBy_keepsSelections .request
    · exact .of_tables rfl rfl
  · exact .refl s

/-! ## The step -/

/-- Every command keeps the selections and the chains. -/
theorem exec_keepsSelections (c : Instr) (s : State) : AnswersOnly (KeepsSelections s) (exec c s) := by
  cases c with
  | configureReference => exact takeRequest_narrows (named := (· == 1)) (serveConfigureReference_narrows · s)
  | readReference =>
    exact takeRequest_of_state_keepsSelections (named := (· == 2)) (serveReadReference_state · s)
  | clearRestore => exact takeRequest_narrows (named := (· == 3)) (serveClearRestore_narrows · s)
  | setOscillatorTrim => exact takeRequest_narrows (named := (· == 4)) (serveSetOscillatorTrim_narrows · s)
  | loadCodePlan => exact takeRequest_narrows (named := (· == 5)) (serveLoadCodePlan_narrows · s)
  | readCodePlan =>
    exact takeRequest_of_state_keepsSelections (named := (· == 6)) (serveReadCodePlan_state · s)
  | setGradeOverride => exact takeRequest_narrows (named := (· == 7)) (serveSetGradeOverride_narrows · s)
  | configureShelf => exact takeRequest_narrows (named := (· == 8)) (serveConfigureShelf_narrows · s)
  | readShelf =>
    exact takeRequest_of_state_keepsSelections (named := (· == 9)) (serveReadShelf_state · s)
  | setSelectionLimits =>
    exact takeRequest_keepsSelections (named := (· == 10)) (serveSetSelectionLimits_keepsSelections · s)
  | switch =>
    exact takeRequest_keepsSelections (named := (· == 11)) (serveSwitch_keepsSelections · s)
  | lockout => exact takeRequest_narrows (named := (· == 12)) (serveLockout_narrows · s)
  | hold => exact takeRequest_narrows (named := (· == 13)) (serveHold_narrows · s)
  | setHighway => exact takeRequest_narrows (named := (· == 14)) (serveSetHighway_narrows · s)
  | readHighway => exact takeRequest_narrows (named := (· == 15)) (serveReadHighway_narrows · s)
  | injectBlock => exact takeRequest_narrows (named := (· == 16)) (serveInjectBlock_narrows · s)
  | setReporting => exact takeRequest_narrows (named := (· == 17)) (serveSetReporting_narrows · s)
  | collect => exact takeRequest_narrows (named := (· == 18)) (serveCollect_narrows · s)
  | endService => exact takeRequest_narrows (named := (· == 19)) (serveEndService_narrows · s)
  | setMode => exact takeRequest_narrows (named := (· == 20)) (serveSetMode_narrows · s)
  | readStatus =>
    exact takeRequest_of_state_keepsSelections (named := (· == 21)) (serveReadStatus_state · s)
  | reset =>
    exact takeRequest_of_state_keepsSelections (named := (· == 22)) (serveReset_state · s)
  | unknownRequestType =>
    exact takeRequest_of_state_keepsSelections (named := fun n => !knownType n) (serve := serveUnknownType)
      fun _ => refuse_state s .badType []
  | replyEnd => exact eventIf_keepsSelections fun _ => s.endReply_keepsSelections
  | resetPin => exact answersOnly_next (s.resetBy_keepsSelections .pin)
  | byteReceived value stopHigh => exact execByteReceived_keepsSelections value stopHigh s
  | byteWatchExpiry => exact eventIf_narrows fun _ => .of_tables rfl rfl
  | tickEvent => exact execTickEvent_keepsSelections s
  | secondEvent => exact eventIf_narrows fun _ => s.secondStep_narrows
  | edge r => exact execEdge_keepsSelections r s
  | signalLost r => exact onRef_answersOnly fun r => eventIf_narrows fun _ => s.loseSignal_narrows r
  | failTimerExpiry r =>
    exact onRef_answersOnly fun r => eventIf_regrading_narrows fun _ => s.enterFailed_narrows r _
  | restoreTimerExpiry r => exact onRef_answersOnly fun r => eventIf_narrows fun _ => s.becomeAvailable_narrows r _
  | qhFrameStart pulse => exact execQhFrameStart_keepsSelections pulse s
  | frameWatchRunOut => exact eventIf_narrows fun _ => s.countMiss_narrows _
  | qhSync => exact execQhSync_keepsSelections s
  | qhRecovered => exact execQhRecovered_keepsSelections s
  | wordReceived slot bits => exact execWordReceived_keepsSelections slot bits s
  | messageAgeExpiry r => exact onRef_answersOnly fun r => eventIf_regrading_narrows fun _ => s.goStale_narrows r
  | cardSilenceExpiry h => exact onShelf_answersOnly fun h => eventIf_regrading_narrows fun _ => s.goSilent_narrows h
  | acquireExpiry h => exact execAcquireExpiry_keepsSelections h s
  | holdoverAging h => exact execHoldoverAging_keepsSelections h s
  | refusalMarkRunOut h r => exact execRefusalMarkRunOut_keepsSelections h r s
  | passStart => exact execPassStart_keepsSelections s
  | passVisit => exact execPassVisit_keepsSelections s
  | passEnd => exact eventIf_keepsSelections fun _ => s.endPass_keepsSelections
  | dhFrameStart => exact execDhFrameStart_keepsSelections s
  | commandBlockStart slot => exact execCommandBlockStart_keepsSelections slot s
  | qualityBlockStart slot => exact execQualityBlockStart_keepsSelections slot s
  | resetPinAsserted => exact answersOnly_next (.of_reset rfl rfl)

theorem step_keepsSelections (s : State) : AnswersOnly (KeepsSelections s) (step s) := by
  unfold step
  split
  · rename_i c rest _
    have dequeued : Narrows s { s with pending := rest } := .of_tables rfl rfl
    exact fun t taken => dequeued.keeps.trans (exec_keepsSelections c _ t taken)
  · exact answersOnly_next (.of_tables s.idle_refs s.idle_engine)

/-- Settles O58: a shelf selects nothing new but the reference chosen at its visit, an entry of its list that is not
locked out, and it leaves a reference that fails, is locked out or is no longer offered. -/
theorem everyStepKeepsTheSelections : Obligations.EveryStepKeepsTheSelections := fun s t taken =>
  (step_keepsSelections s t taken).selections

/-- Settles O59: no step adds a hop to a chain but a visit, whose reference chosen makes no loop and keeps the depths of
the chains through it within the limit. -/
theorem everyStepKeepsTheChains : Obligations.EveryStepKeepsTheChains := fun s t taken =>
  (step_keepsSelections s t taken).chains

end Sys2Proof.Machine

/-!
SUPPORT. SWITCH: the three bytes of its body, the tests of R119 in their order, and the request written.
-/

namespace Sys2Proof.Machine

open Sys2Proof

/-! ## Bodies of three bytes -/

/-- Three bytes put into a body are read from it in order (R169, R170). -/
theorem byteAt_threeBytes {a b c : Nat} (first : a ≤ 255) (second : b ≤ 255) (third : c ≤ 255) :
    byteAt (put8 a ++ put8 b ++ put8 c) 0 = a ∧ byteAt (put8 a ++ put8 b ++ put8 c) 1 = b
      ∧ byteAt (put8 a ++ put8 b ++ put8 c) 2 = c :=
  ⟨toNat_byte first, toNat_byte second, toNat_byte third⟩

/-! ## The tests of R119 -/

section
variable {s : State} {h : ShelfNo} {r : RefNo} {e : Candidate} {c : JoinedCard} {status : Status}

/-- A shelf in ACQUIRE is JOINED (R73). -/
theorem Shelf.isJoined_of_acquiring {x : Shelf} (acquiring : x.acquiring = true) : x.isJoined = true := by
  by_contra away
  rw [Bool.not_eq_true] at away
  simp [Shelf.acquiring, Shelf.timing_of_not_joined away] at acquiring

theorem State.switchBarred_of_notJoined (away : (s.shelf h).isJoined = false) :
    s.switchBarred h = some .notJoined := by
  simp [State.switchBarred, away]

theorem State.switchBarred_of_acquiring (acquiring : (s.shelf h).acquiring = true) :
    s.switchBarred h = some .busy := by
  simp [State.switchBarred, Shelf.isJoined_of_acquiring acquiring, acquiring]

theorem State.switchBarred_of_held (joined : (s.shelf h).isJoined = true) (settled : (s.shelf h).acquiring = false)
    (held : (s.shelf h).hold = true) : s.switchBarred h = some .held := by
  simp [State.switchBarred, joined, settled, held]

theorem State.switchBarred_of_free (joined : (s.shelf h).isJoined = true) (settled : (s.shelf h).acquiring = false)
    (free : (s.shelf h).hold = false) : s.switchBarred h = none := by
  simp [State.switchBarred, joined, settled, free]

theorem State.switchUnfit_of_absent (absent : (s.shelf h).entry r = none) (force : Bool) :
    s.switchUnfit h force r = some .notCandidate := by
  rw [State.switchUnfit, absent]

theorem State.switchUnfit_of_lockedOut (entry : (s.shelf h).entry r = some e) (lockedOut : e.lockout = true)
    (force : Bool) : s.switchUnfit h force r = some .lockedOut := by
  simp [State.switchUnfit, entry, lockedOut]

theorem State.switchUnfit_force (entry : (s.shelf h).entry r = some e) (unlocked : e.lockout = false) :
    s.switchUnfit h true r = if s.loopFree h r then none else some .loop := by
  simp [State.switchUnfit, entry, unlocked]

theorem State.switchUnfit_manual (entry : (s.shelf h).entry r = some e) (unlocked : e.lockout = false) :
    s.switchUnfit h false r = if s.eligible h e then none else some .notUsable := by
  simp [State.switchUnfit, entry, unlocked]

/-! ## The answers -/

theorem State.switchClear_of_barred (barred : s.switchBarred h = some status) :
    s.switchClear h = refuse s status (s.shelf h).request.put := by
  rw [State.switchClear, barred]

theorem State.switchTo_of_barred (barred : s.switchBarred h = some status) (force : Bool) (r : RefNo) :
    s.switchTo h force r = refuse s status (s.shelf h).request.put := by
  rw [State.switchTo, barred]

theorem State.switchTo_of_unfit {force : Bool} (free : s.switchBarred h = none)
    (unfit : s.switchUnfit h force r = some status) :
    s.switchTo h force r = refuse s status (s.shelf h).request.put := by
  rw [State.switchTo, free, unfit]

/-- A request written to a JOINED shelf, with a pass left pending (R120). -/
theorem State.setRequest_of_joined (joined : (s.shelf h).admission = .joined c) (q : SwitchRequest) :
    s.setRequest h q
      = (s.setShelf h { s.shelf h with admission := .joined { c with request := q } }).leavePassPending := by
  simp only [State.setRequest, State.mapCard, Shelf.card, joined]

/-- The results give the request as written and the timing state and selection as they stand (R120, R170). -/
theorem State.switchResults_setRequest (joined : (s.shelf h).admission = .joined c) (q : SwitchRequest) :
    (s.setRequest h q).switchResults h
      = q.put ++ put8 c.timing.name.code ++ putOption8 (c.timing.selected.map (·.val)) := by
  have written : (s.setRequest h q).shelf h = (s.shelf h).withCard { c with request := q } := by
    rw [State.shelf_setRequest, if_pos rfl, Shelf.withRequest_of_joined joined]
  rw [State.switchResults, written, Shelf.selected_of_timing ((s.shelf h).withCard_timing _), Shelf.withCard_request,
    Shelf.withCard_timing]
  rfl

/-- The answer to an accepted SWITCH (R120, R170). -/
def State.switched (s : State) (h : ShelfNo) (c : JoinedCard) (q : SwitchRequest) : Answer :=
  accept (s.setShelf h { s.shelf h with admission := .joined { c with request := q } }).leavePassPending false
    (q.put ++ put8 c.timing.name.code ++ putOption8 (c.timing.selected.map (·.val)))

theorem State.switchClear_of_free (joined : (s.shelf h).admission = .joined c) (free : s.switchBarred h = none) :
    s.switchClear h = s.switched h c .none := by
  rw [State.switchClear, free, State.switched, ← State.setRequest_of_joined joined,
    ← State.switchResults_setRequest joined]

theorem State.switchTo_of_fit {force : Bool} (joined : (s.shelf h).admission = .joined c)
    (free : s.switchBarred h = none) (fit : s.switchUnfit h force r = none) :
    s.switchTo h force r = s.switched h c (if force then .forced r else .manual r) := by
  rw [State.switchTo, free, fit, State.switched, ← State.setRequest_of_joined joined,
    ← State.switchResults_setRequest joined]

/-- FORCE toward an entry that is not locked out asks for a loop-free target (R119). -/
theorem State.switchTo_force (joined : (s.shelf h).admission = .joined c) (free : s.switchBarred h = none)
    (entry : (s.shelf h).entry r = some e) (unlocked : e.lockout = false) :
    s.switchTo h true r
      = if s.loopFree h r then s.switched h c (.forced r) else refuse s .loop (s.shelf h).request.put := by
  have test := State.switchUnfit_force entry unlocked
  split_ifs at test ⊢
  · exact State.switchTo_of_fit joined free test
  · exact State.switchTo_of_unfit free test

/-- MANUAL toward an entry that is not locked out asks for an eligible target (R119). -/
theorem State.switchTo_manual (joined : (s.shelf h).admission = .joined c) (free : s.switchBarred h = none)
    (entry : (s.shelf h).entry r = some e) (unlocked : e.lockout = false) :
    s.switchTo h false r
      = if s.eligible h e then s.switched h c (.manual r) else refuse s .notUsable (s.shelf h).request.put := by
  have test := State.switchUnfit_manual entry unlocked
  split_ifs at test ⊢
  · exact State.switchTo_of_fit joined free test
  · exact State.switchTo_of_unfit free test

/-! ## The body -/

variable {shelf action n : Nat}

/-- The bytes of the body are the shelf, the action and the reference (R169, R170). -/
theorem serveSwitch_of_bytes (shelves : shelf ≤ 255) (actions : action ≤ 255) (refs : n ≤ 255) (s : State) :
    serveSwitch (put8 shelf ++ put8 action ++ put8 n) s
      = if h : shelf < 32 then
          if action = 0 then s.switchClear ⟨shelf, h⟩
          else if 2 < action then refuse s .badValue []
          else if g : n < 40 then s.switchTo ⟨shelf, h⟩ (action == 1) ⟨n, g⟩
          else refuse s .badIndex []
        else refuse s .badIndex [] := by
  obtain ⟨first, second, third⟩ := byteAt_threeBytes shelves actions refs
  have size : (put8 shelf ++ put8 action ++ put8 n).length = 3 := rfl
  rw [serveSwitch, if_neg (not_not.2 size)]
  simp only [first, second, third]

theorem serveSwitch_of_clear (h : ShelfNo) (refs : n ≤ 255) (s : State) :
    serveSwitch (put8 h.val ++ put8 0 ++ put8 n) s = s.switchClear h := by
  rw [serveSwitch_of_bytes (by omega) (by decide) refs, dif_pos h.isLt, if_pos rfl]

theorem serveSwitch_of_target (h : ShelfNo) (target : action = 1 ∨ action = 2) (r : RefNo) (s : State) :
    serveSwitch (put8 h.val ++ put8 action ++ put8 r.val) s = s.switchTo h (action == 1) r := by
  rw [serveSwitch_of_bytes (by omega) (by omega) (by omega), dif_pos h.isLt, if_neg (by omega), if_neg (by omega),
    dif_pos r.isLt]

theorem serveSwitch_of_force (h : ShelfNo) (r : RefNo) (s : State) :
    serveSwitch (put8 h.val ++ put8 1 ++ put8 r.val) s = s.switchTo h true r :=
  serveSwitch_of_target h (.inl rfl) r s

theorem serveSwitch_of_manual (h : ShelfNo) (r : RefNo) (s : State) :
    serveSwitch (put8 h.val ++ put8 2 ++ put8 r.val) s = s.switchTo h false r :=
  serveSwitch_of_target h (.inr rfl) r s

/-- A shelf that is not JOINED, in ACQUIRE or held is refused before the reference is looked at (R119). -/
theorem serveSwitch_of_barred (h : ShelfNo) (actions : action ≤ 2) (target : action = 0 ∨ n < 40) (refs : n ≤ 255)
    (barred : s.switchBarred h = some status) :
    serveSwitch (put8 h.val ++ put8 action ++ put8 n) s = refuse s status (s.shelf h).request.put := by
  rcases Nat.eq_zero_or_pos action with rfl | positive
  · rw [serveSwitch_of_clear h refs, State.switchClear_of_barred barred]
  · have within : n < 40 := by omega
    rw [serveSwitch_of_target h (by omega) ⟨n, within⟩, State.switchTo_of_barred barred]

theorem execSwitch_of_asks {f : Frame} (asks : s.asks 11 f) :
    exec .switch s = .next (State.sendReply f (serveSwitch f.body s)) :=
  takeRequest_of_asks (· == 11) serveSwitch s 11 f asks rfl

end

/-- Settles O45, by the tests of R119 in their order. -/
theorem switchWritesTheRequest : Obligations.SwitchWritesTheRequest := by
  refine ⟨fun s f shelf action n asks shelves actions refs body => ?_, fun s f h r action n asks refs body => ?_⟩ <;>
    rw [execSwitch_of_asks asks, body]
  · rw [serveSwitch_of_bytes shelves actions refs]
    refine ⟨fun outside => ?_, fun inside target outside => ?_, fun inside wrong => ?_⟩
    · rw [dif_neg (by omega), State.sendReply_refuse]
    · rw [dif_pos inside, if_neg (by omega), if_neg (by omega), dif_neg (by omega), State.sendReply_refuse]
    · rw [dif_pos inside, if_neg (by omega), if_pos wrong, State.sendReply_refuse]
  · refine ⟨fun actions target => ?_, fun c card settled unheld => ?_⟩
    · refine ⟨fun away => ?_, fun acquiring => ?_, fun joined settled held => ?_⟩
      · rw [serveSwitch_of_barred h actions target refs (State.switchBarred_of_notJoined away), State.sendReply_refuse]
      · rw [serveSwitch_of_barred h actions target refs (State.switchBarred_of_acquiring acquiring),
          State.sendReply_refuse]
      · rw [serveSwitch_of_barred h actions target refs (State.switchBarred_of_held joined settled held),
          State.sendReply_refuse]
    · have joined : (s.shelf h).isJoined = true := by simp [Shelf.isJoined, Shelf.card, card]
      have free := State.switchBarred_of_free joined settled unheld
      refine ⟨?_, ?_⟩
      · rintro rfl
        rw [serveSwitch_of_clear h refs, State.switchClear_of_free card free]
        rfl
      · rintro target rfl
        refine ⟨fun absent => ?_, fun e entry => ⟨fun lockedOut => ?_, ?_, ?_, ?_, ?_⟩⟩
        · rw [serveSwitch_of_target h target r, State.switchTo_of_unfit free (State.switchUnfit_of_absent absent _),
            State.sendReply_refuse]
        · rw [serveSwitch_of_target h target r,
            State.switchTo_of_unfit free (State.switchUnfit_of_lockedOut entry lockedOut _), State.sendReply_refuse]
        · rintro unlocked rfl looping
          rw [serveSwitch_of_force, State.switchTo_force card free entry unlocked, looping]
          rfl
        · rintro unlocked rfl ineligible
          rw [serveSwitch_of_manual, State.switchTo_manual card free entry unlocked, ineligible]
          rfl
        · rintro unlocked rfl loopFree
          rw [serveSwitch_of_force, State.switchTo_force card free entry unlocked, if_pos loopFree]
          rfl
        · rintro unlocked rfl eligible
          rw [serveSwitch_of_manual, State.switchTo_manual card free entry unlocked, if_pos eligible]
          rfl

end Sys2Proof.Machine

/-!
SUPPORT. LOCKOUT: the three bytes of its body, the flag written, the request and the selection it removes.
-/

namespace Sys2Proof.Machine

open Sys2Proof

/-! ## Shelves of the same admission -/

/-- A shelf that becomes y keeps its admission, its card's class and proposed reference, and its card silence: what the
removal of a request or of a selection leaves (R118, R126). -/
structure Shelf.KeepsAdmission (x y : Shelf) : Prop where
  code : y.admission.code = x.admission.code
  card : y.card.map (fun c => (c.cardClass, c.proposed)) = x.card.map fun c => (c.cardClass, c.proposed)
  silence : y.silence = x.silence

section
variable {h : ShelfNo} {r : RefNo} {x y z : Shelf} {s t u : State}

theorem Shelf.KeepsAdmission.refl (x : Shelf) : x.KeepsAdmission x := ⟨rfl, rfl, rfl⟩

theorem Shelf.KeepsAdmission.trans (a : x.KeepsAdmission y) (b : y.KeepsAdmission z) : x.KeepsAdmission z :=
  ⟨b.code.trans a.code, b.card.trans a.card, b.silence.trans a.silence⟩

theorem Shelf.withTiming_keepsAdmission (x : Shelf) (timing : Timing) : x.KeepsAdmission (x.withTiming timing) := by
  rcases joined : x.admission with _ | _ | c
  case joined =>
    rw [Shelf.withTiming_of_joined joined]
    exact ⟨by rw [joined]; rfl, by rw [Shelf.card, Shelf.card, joined]; rfl, rfl⟩
  all_goals
    rw [Shelf.withTiming, joined]
    exact .refl x

theorem Shelf.withRequest_keepsAdmission (q : SwitchRequest) (x : Shelf) : x.KeepsAdmission (x.withRequest q) := by
  rcases joined : x.admission with _ | _ | c
  case joined =>
    rw [Shelf.withRequest_of_joined joined]
    exact ⟨by rw [joined]; rfl, by rw [Shelf.card, Shelf.card, joined]; rfl, rfl⟩
  all_goals
    rw [Shelf.withRequest, joined]
    exact .refl x

theorem Shelf.request_withTiming (x : Shelf) (timing : Timing) : (x.withTiming timing).request = x.request := by
  rcases joined : x.admission with _ | _ | c
  case joined =>
    rw [Shelf.withTiming_of_joined joined, Shelf.request_of_joined joined]
    rfl
  all_goals rw [Shelf.withTiming, joined]

theorem Shelf.timing_withRequest (q : SwitchRequest) (x : Shelf) : (x.withRequest q).timing = x.timing := by
  rcases joined : x.admission with _ | _ | c
  case joined =>
    rw [Shelf.withRequest_of_joined joined, Shelf.timing_of_joined joined]
    rfl
  all_goals rw [Shelf.withRequest, joined]

/-! ## A shelf taken off a reference -/

/-- A shelf is taken off a reference by a change of its timing state, or stays as it is. -/
theorem shelfOff_eq_or (s : State) (r : RefNo) (h : ShelfNo) :
    shelfOff s r h = s.shelf h ∨ ∃ timing : Timing, shelfOff s r h = (s.shelf h).withTiming timing := by
  rcases s.takeOff_cases h r with ⟨-, same, -⟩ | ⟨timing, off, -⟩
  · exact .inl same
  · exact .inr ⟨timing, off⟩

theorem shelfOff_keepsAdmission (s : State) (r : RefNo) (h : ShelfNo) :
    (s.shelf h).KeepsAdmission (shelfOff s r h) := by
  rcases shelfOff_eq_or s r h with same | ⟨timing, off⟩
  · rw [same]
    exact .refl _
  · rw [off]
    exact Shelf.withTiming_keepsAdmission _ timing

theorem request_shelfOff (s : State) (r : RefNo) (h : ShelfNo) : (shelfOff s r h).request = (s.shelf h).request := by
  rcases shelfOff_eq_or s r h with same | ⟨timing, off⟩
  · rw [same]
  · rw [off, Shelf.request_withTiming]

theorem timing_shelfOff (s : State) (r : RefNo) (h : ShelfNo) :
    (shelfOff s r h).timing
      = (s.shelf h).timing.map fun timing => if timing.selected = some r then fallbackOf s h timing else timing := by
  rcases timing : (s.shelf h).timing with _ | present
  · simp [shelfOff, timing]
  · by_cases follows : present.selected = some r
    · simp [shelfOff, timing, follows, Shelf.timing_withTiming timing]
    · simp [shelfOff, timing, follows]

/-- Where a shelf goes when it is taken off a reference rests on office time, its configuration and its timing state. -/
theorem timing_shelfOff_congr (now : t.now = s.now) (cfg : (t.shelf h).cfg = (s.shelf h).cfg)
    (timing : (t.shelf h).timing = (s.shelf h).timing) (r : RefNo) :
    (shelfOff t r h).timing = (shelfOff s r h).timing := by
  simp only [timing_shelfOff, timing, fallbackOf_congr_cfg now cfg]

theorem offReports_congr_timing (now : t.now = s.now) (cfg : (t.shelf h).cfg = (s.shelf h).cfg)
    (timing : (t.shelf h).timing = (s.shelf h).timing) (r : RefNo) : offReports t r h = offReports s r h := by
  have acquiring : (t.shelf h).acquiring = (s.shelf h).acquiring := by simp only [Shelf.acquiring, timing]
  simp only [offReports, acquiring, timing, fallbackOf_congr_cfg now cfg]

/-! ## The steps of a lockout -/

/-- A shelf with the lockout flag of the entry for r written (R125). -/
def Shelf.withLockout (r : RefNo) (on : Bool) (x : Shelf) : Shelf :=
  { x with candidates := x.candidates.map fun e => if e.ref = r then { e with lockout := on } else e }

/-- A shelf without a switch request that names r (R127). -/
def Shelf.withoutTarget (r : RefNo) (x : Shelf) : Shelf :=
  if x.request.target = some r then x.withRequest .none else x

/-- The report of a switch request for r that is removed: MANUAL_DROPPED for a manual one (R118, R127). -/
def SwitchRequest.droppedReports (h : ShelfNo) (r : RefNo) (q : SwitchRequest) : List Report :=
  if q = .manual r then [.manualDropped h r] else []

theorem Shelf.candidates_withoutTarget (r : RefNo) (x : Shelf) : (x.withoutTarget r).candidates = x.candidates := by
  unfold Shelf.withoutTarget
  split
  · exact Shelf.candidates_withRequest _ x
  · rfl

theorem Shelf.timing_withoutTarget (r : RefNo) (x : Shelf) : (x.withoutTarget r).timing = x.timing := by
  unfold Shelf.withoutTarget
  split
  · exact Shelf.timing_withRequest _ x
  · rfl

theorem Shelf.request_withoutTarget (r : RefNo) (x : Shelf) :
    (x.withoutTarget r).request = if x.request.target = some r then .none else x.request := by
  unfold Shelf.withoutTarget
  split
  · exact x.request_withRequest_none
  · rfl

theorem Shelf.withoutTarget_keepsAdmission (r : RefNo) (x : Shelf) : x.KeepsAdmission (x.withoutTarget r) := by
  unfold Shelf.withoutTarget
  split
  · exact Shelf.withRequest_keepsAdmission _ x
  · exact .refl x

theorem State.dropTarget_eq (h : ShelfNo) (r : RefNo) (s : State) :
    s.dropTarget h r = if (s.shelf h).request.target = some r then s.dropRequest h else s := by
  unfold State.dropTarget
  rcases (s.shelf h).request with _ | q | q <;> simp [SwitchRequest.target]

variable {p : Bool} {reps : List Report}

theorem ShelfStep.setLockout (a : ShelfStep h x p reps s t) (r : RefNo) (on : Bool) :
    ShelfStep h (x.withLockout r on) true reps s (t.setLockout h r on) := by
  have written : t.setLockout h r on = (t.setShelf h (x.withLockout r on)).leavePassPending := by
    rw [State.setLockout, a.shelf]
    rfl
  exact written ▸ (a.setShelf (y := x.withLockout r on) rfl rfl).leavePassPending

theorem ShelfStep.mapRequest (a : ShelfStep h x p reps s t) (q : SwitchRequest) :
    ShelfStep h (x.withRequest q) p reps s (t.mapCard h fun c => { c with request := q }) := by
  rcases admission : x.admission with _ | _ | c
  case joined =>
    rw [Shelf.withRequest_of_joined admission]
    exact (a.congr (Shelf.withCard_eq admission).symm rfl rfl).mapCard fun c => { c with request := q }
  all_goals
    have same : t.mapCard h (fun c => { c with request := q }) = t := by
      simp only [State.mapCard, a.shelf, Shelf.card, admission]
    rw [same]
    exact a.congr (by rw [Shelf.withRequest, admission]) rfl rfl

/-- A request for r is removed, and MANUAL_DROPPED posted for a manual one (R118). -/
theorem ShelfStep.dropRequest (a : ShelfStep h x true reps s t) (names : x.request.target = some r) :
    ShelfStep h (x.withRequest .none) true (reps ++ x.request.droppedReports h r) s (t.dropRequest h) := by
  have removed := (a.mapRequest .none).leavePassPending
  rw [State.dropRequest, a.shelf]
  rcases request : x.request with _ | q | q <;> rw [request] at names
  · cases names
  · exact removed.congr rfl rfl (by simp [SwitchRequest.droppedReports])
  · obtain rfl : q = r := Option.some.inj names
    exact (removed.post (.manualDropped h q)).congr rfl rfl (by simp [SwitchRequest.droppedReports])

theorem ShelfStep.dropTarget (a : ShelfStep h x true reps s t) (r : RefNo) :
    ShelfStep h (x.withoutTarget r) true (reps ++ x.request.droppedReports h r) s (t.dropTarget h r) := by
  rw [State.dropTarget_eq, a.shelf, Shelf.withoutTarget]
  split_ifs with names
  · exact a.dropRequest names
  · have other : x.request ≠ .manual r := fun manual => names (by rw [manual]; rfl)
    exact a.congr rfl rfl (by simp [SwitchRequest.droppedReports, other])

theorem ShelfStep.takeOff (a : ShelfStep h x true reps s t) (r : RefNo) :
    ShelfStep h (shelfOff t r h) true (reps ++ offReports t r h) s (t.takeOff h r) where
  shelf := by rw [State.shelf_takeOff, if_pos rfl]
  posts := a.posts.trans (t.takeOff_posts h r)
  passPending := by
    rw [Bool.or_true]
    exact State.takeOff_passPending h r (a.passPending.trans (Bool.or_true _))
  only := OnlyShelf.trans a.only ((t.takeOff_shelfMove h r).onlyShelf fun g other => by
    rw [State.shelf_takeOff, if_neg other.symm])

/-! ## What a lockout comes to -/

theorem State.lockOut_same (h : ShelfNo) (r : RefNo) (on : Bool) (s : State) : s.lockOut h r on on = s := if_pos rfl

theorem State.lockOut_clear (h : ShelfNo) (r : RefNo) (s : State) :
    s.lockOut h r true false = s.setLockout h r false := rfl

theorem State.lockOut_set (h : ShelfNo) (r : RefNo) (s : State) :
    s.lockOut h r false true = ((s.setLockout h r true).dropTarget h r).takeOff h r := rfl

/-- Nothing is handed on where no grade has changed. -/
theorem State.handOnGrades_of_grades (grades : ∀ q, t.effectiveGrade q = s.effectiveGrade q) :
    s.handOnGrades t = t := by
  have unchanged : s.regraded t = [] := by simp [State.regraded, grades]
  rw [State.handOnGrades, unchanged, List.foldl_nil]

theorem State.regrading_lockOut_same (h : ShelfNo) (r : RefNo) (on : Bool) (s : State) :
    State.regrading (State.lockOut h r on on) s = s := by
  rw [State.regrading, State.lockOut_same]
  exact State.handOnGrades_of_grades fun _ => rfl

/-- A flag that is cleared changes no grade (R92, R125). -/
theorem State.regrading_lockOut_clear (h : ShelfNo) (r : RefNo) (s : State) :
    State.regrading (State.lockOut h r true false) s = s.setLockout h r false := by
  have step : ShelfStep h ((s.shelf h).withLockout r false) true [] s (s.setLockout h r false) :=
    (ShelfStep.refl rfl).setLockout r false
  rw [State.regrading, State.lockOut_clear]
  exact State.handOnGrades_of_grades (step.effectiveGrade rfl)

/-- What setting the flag of an entry anew leaves of its shelf, before grades are handed on (R126, R127). -/
structure LockedOutTo (s : State) (h : ShelfNo) (r : RefNo) (y : Shelf) : Prop where
  keeps : (s.shelf h).KeepsAdmission y
  candidates : y.candidates = ((s.shelf h).withLockout r true).candidates
  timing : y.timing = (shelfOff s r h).timing
  request : y.request = if (s.shelf h).request.target = some r then .none else (s.shelf h).request

/-- A flag set anew: the request for the reference is removed, and then the shelf taken off it (R126, R127). -/
theorem State.lockOut_set_step (h : ShelfNo) (r : RefNo) (s : State) :
    ∃ y : Shelf, LockedOutTo s h r y
      ∧ ShelfStep h y true ((s.shelf h).request.droppedReports h r ++ offReports s r h) s
          (s.lockOut h r false true) := by
  have dropped := ((ShelfStep.refl (s := s) (h := h) rfl).setLockout r true).dropTarget r
  obtain ⟨u, event⟩ : ∃ u : State, (s.setLockout h r true).dropTarget h r = u := ⟨_, rfl⟩
  rw [event] at dropped
  have timing : (u.shelf h).timing = (s.shelf h).timing := by
    rw [dropped.shelf, Shelf.timing_withoutTarget]
    rfl
  have locked : (s.shelf h).KeepsAdmission ((s.shelf h).withLockout r true) := ⟨rfl, rfl, rfl⟩
  have off := shelfOff_keepsAdmission u r h
  obtain ⟨list, -⟩ := shelfOff_keeps u r h
  rw [dropped.shelf] at off list
  refine ⟨shelfOff u r h, ⟨(locked.trans (Shelf.withoutTarget_keepsAdmission r _)).trans off, ?_,
    timing_shelfOff_congr dropped.now (dropped.cfgs h) timing r, ?_⟩, ?_⟩
  · rw [list, Shelf.candidates_withoutTarget]
  · rw [request_shelfOff, dropped.shelf, Shelf.request_withoutTarget]
    rfl
  · rw [State.lockOut_set, event, ← offReports_congr_timing dropped.now (dropped.cfgs h) timing r]
    exact dropped.takeOff r

/-! ## The request -/

variable {shelf n setting : Nat} {e : Candidate} {f : Frame}

/-- The answer to a LOCKOUT of an entry that is there (R125, R170). -/
def State.lockoutAnswer (s : State) (h : ShelfNo) (r : RefNo) (e : Candidate) (on : Bool) : Answer :=
  accept (State.regrading (State.lockOut h r e.lockout on) s) false
    (putFlag on
      ++ putOption8 (((State.regrading (State.lockOut h r e.lockout on) s).shelf h).timing.map (·.name.code))
      ++ ((State.regrading (State.lockOut h r e.lockout on) s).shelf h).request.put)

theorem serveLockout_of_outside (shelves : shelf ≤ 255) (refs : n ≤ 255) (outside : 32 ≤ shelf ∨ 40 ≤ n)
    (setting : Nat) (s : State) :
    serveLockout (put8 shelf ++ put8 n ++ put8 setting) s = refuse s .badIndex [] := by
  have first : byteAt (put8 shelf ++ put8 n ++ put8 setting) 0 = shelf := toNat_byte shelves
  have second : byteAt (put8 shelf ++ put8 n ++ put8 setting) 1 = n := toNat_byte refs
  have size : (put8 shelf ++ put8 n ++ put8 setting).length = 3 := rfl
  rw [serveLockout, if_neg (not_not.2 size)]
  split_ifs with inside within
  · omega
  · rfl
  · rfl

/-- The tests after those of the numbers: the setting, and then the entry (R125, R170). -/
theorem serveLockout_of_named (h : ShelfNo) (r : RefNo) (settings : setting ≤ 255) (s : State) :
    serveLockout (put8 h.val ++ put8 r.val ++ put8 setting) s
      = if 1 < setting then refuse s .badValue []
        else
          ((s.shelf h).entry r).elim (refuse s .notCandidate [])
            fun e => s.lockoutAnswer h r e (decide (setting = 1)) := by
  obtain ⟨first, second, third⟩ := byteAt_threeBytes (a := h.val) (b := r.val) (by omega) (by omega) settings
  have size : (put8 h.val ++ put8 r.val ++ put8 setting).length = 3 := rfl
  rw [serveLockout, if_neg (not_not.2 size)]
  simp only [first, second, third, h.isLt, r.isLt, dite_true, Fin.eta]
  by_cases wrong : 1 < setting
  · rw [flagOfCode_of_outside wrong, if_pos wrong]
  · rw [flagOfCode_of_le (Nat.le_of_not_lt wrong), if_neg wrong]
    cases (s.shelf h).entry r <;> rfl

theorem serveLockout_of_badValue (h : ShelfNo) (r : RefNo) (settings : setting ≤ 255) (wrong : 1 < setting)
    (s : State) : serveLockout (put8 h.val ++ put8 r.val ++ put8 setting) s = refuse s .badValue [] := by
  rw [serveLockout_of_named h r settings, if_pos wrong]

theorem serveLockout_of_absent (absent : (s.shelf h).entry r = none) (right : setting ≤ 1) :
    serveLockout (put8 h.val ++ put8 r.val ++ put8 setting) s = refuse s .notCandidate [] := by
  rw [serveLockout_of_named h r (by omega), if_neg (Nat.not_lt.2 right), absent, Option.elim_none]

theorem serveLockout_of_entry (entry : (s.shelf h).entry r = some e) (right : setting ≤ 1) :
    serveLockout (put8 h.val ++ put8 r.val ++ put8 setting) s = s.lockoutAnswer h r e (decide (setting = 1)) := by
  rw [serveLockout_of_named h r (by omega), if_neg (Nat.not_lt.2 right), entry, Option.elim_some]

theorem execLockout_of_asks (asks : s.asks 12 f) :
    exec .lockout s = .next (State.sendReply f (serveLockout f.body s)) :=
  takeRequest_of_asks (· == 12) serveLockout s 12 f asks rfl

end

/-- Settles O46, by the numbers, the setting and the flag that stands. -/
theorem lockoutWritesTheFlag : Obligations.LockoutWritesTheFlag := by
  refine ⟨fun s f shelf n setting asks body shelves refs outside => ?_, fun s f h r setting asks body settings => ?_⟩ <;>
    rw [execLockout_of_asks asks, body]
  · rw [serveLockout_of_outside shelves refs outside, State.sendReply_refuse]
  · refine ⟨fun wrong => ?_, fun right absent => ?_, fun e right entry => ?_⟩
    · rw [serveLockout_of_badValue h r settings wrong, State.sendReply_refuse]
    · rw [serveLockout_of_absent absent right, State.sendReply_refuse]
    · obtain ⟨t, event⟩ : ∃ t : State, State.regrading (State.lockOut h r e.lockout (decide (setting = 1))) s = t :=
        ⟨_, rfl⟩
      refine ⟨t, ?_, fun stands => ?_, ?_, ?_⟩
      · rw [serveLockout_of_entry entry right, State.lockoutAnswer, event, putFlag_decide right, State.sendReply_accept]
      · rw [← event, stands, State.regrading_lockOut_same]
      · rintro rfl locked
        rw [← event, locked]
        exact s.regrading_lockOut_clear h r
      · rintro rfl unlocked
        obtain ⟨y, out, set⟩ := s.lockOut_set_step h r
        have last : State.regrading (State.lockOut h r false true) s = t := by rw [← event, unlocked]; rfl
        have step := set.regrading last
        rw [step.shelf]
        exact ⟨out.candidates, out.keeps.silence, out.timing, out.request, out.keeps.code, out.keeps.card,
          step.posts.queue, step.passPending.trans (Bool.or_true _), step.only⟩

end Sys2Proof.Machine

/-!
SUPPORT. HOLD: the two bytes of its body, the flags written and the pending flag.
-/

namespace Sys2Proof.Machine

open Sys2Proof

/-- The shelves that the first byte of HOLD names: one of them, or all by FFh (R129, R170). -/
def holdNames (n : Nat) (h : ShelfNo) : Bool := n == 255 || n == h.val

theorem holdNames_iff (n : Nat) (h : ShelfNo) : holdNames n h = true ↔ n = 255 ∨ n = h.val := by
  simp [holdNames]

section
variable {s : State} {n setting : Nat}

/-- The pending flag is set where the hold flag of a shelf changes (R129). -/
theorem State.setHolds_passPending_iff (named : ShelfNo → Bool) (on : Bool) (s : State) :
    (s.setHolds named on).engine.passPending = true
      ↔ s.engine.passPending = true ∨ ∃ h : ShelfNo, ((s.setHolds named on).shelf h).hold ≠ (s.shelf h).hold := by
  have changed (h : ShelfNo) : ((s.setHolds named on).shelf h).hold ≠ (s.shelf h).hold
      ↔ (named h && (s.shelf h).hold != on) = true := by
    rw [State.shelf_setHolds]
    cases named h
    · simp
    · simpa using ne_comm
  have flag : (s.setHolds named on).engine.passPending
      = (s.engine.passPending || allShelves.any fun h => named h && (s.shelf h).hold != on) := rfl
  simp only [flag, changed, Bool.or_eq_true, List.any_eq_true, mem_allShelves, true_and]

theorem State.shelf_setHolds_holdNames (n : Nat) (on : Bool) (s : State) (h : ShelfNo) :
    (s.setHolds (holdNames n) on).shelf h
      = { s.shelf h with hold := if n = 255 ∨ n = h.val then on else (s.shelf h).hold } := by
  rw [State.shelf_setHolds]
  simp only [holdNames_iff]
  split_ifs <;> rfl

/-- The bytes of the body are the shelf or FFh, and the setting (R129, R170). -/
theorem serveHold_of_bytes (shelves : n ≤ 255) (settings : setting ≤ 255) (s : State) :
    serveHold (put8 n ++ put8 setting) s
      = if outsideOrPresent n 32 then refuse s .badIndex []
        else if 1 < setting then refuse s .badValue []
        else
          accept (s.setHolds (holdNames n) (decide (setting = 1))) false
            (putShelfSet (s.setHolds (holdNames n) (decide (setting = 1))).heldShelves) := by
  have first : byteAt (put8 n ++ put8 setting) 0 = n := byteAt_put8_append shelves _
  have second : byteAt (put8 n ++ put8 setting) 1 = setting :=
    (byteAt_put8_append_succ n 0 _).trans (byteAt_put8 settings)
  have size : (put8 n ++ put8 setting).length = 2 := rfl
  rw [serveHold, if_neg (not_not.2 size), first, second]
  by_cases wrong : 1 < setting
  · rw [flagOfCode_of_outside wrong, if_pos wrong]
  · rw [flagOfCode_of_le (Nat.le_of_not_lt wrong), if_neg wrong]
    rfl

theorem execHold_of_asks {f : Frame} (asks : s.asks 13 f) :
    exec .hold s = .next (State.sendReply f (serveHold f.body s)) :=
  takeRequest_of_asks (· == 13) serveHold s 13 f asks rfl

end

/-- Settles O47, by the shelves named and the setting. -/
theorem holdWritesTheFlags : Obligations.HoldWritesTheFlags := by
  intro s f n setting asks body shelves settings
  rw [execHold_of_asks asks, body, serveHold_of_bytes shelves settings]
  have inside (named : n < 32 ∨ n = 255) : ¬ outsideOrPresent n 32 = true := by
    rw [outsideOrPresent_iff]
    omega
  refine ⟨fun outside other => ?_, fun named wrong => ?_, fun named right => ?_⟩
  · rw [if_pos ((outsideOrPresent_iff n 32).2 ⟨outside, other⟩), State.sendReply_refuse]
  · rw [if_neg (inside named), if_pos wrong, State.sendReply_refuse]
  · rw [if_neg (inside named), if_neg (Nat.not_lt.2 right)]
    exact ⟨s.setHolds (holdNames n) (decide (setting = 1)), rfl, s.shelf_setHolds_holdNames n _,
      s.setHolds_passPending_iff _ _, rfl⟩

end Sys2Proof.Machine

/-!
SUPPORT. Numbers outside the tables of references, shelves and slots.
-/

namespace Sys2Proof.Machine

open Sys2Proof

theorem onRef_of_outside {n : Nat} (outside : 40 ≤ n) (f : RefNo → Result) : onRef n f = .fault .noSuchReference :=
  dif_neg (Nat.not_lt.2 outside)

theorem onShelf_of_outside {n : Nat} (outside : 32 ≤ n) (f : ShelfNo → Result) : onShelf n f = .fault .noSuchShelf :=
  dif_neg (Nat.not_lt.2 outside)

theorem onSlot_of_outside {n : Nat} (outside : 48 ≤ n) (f : SlotNo → Result) : onSlot n f = .fault .noSuchSlot :=
  dif_neg (Nat.not_lt.2 outside)

theorem execCommandBlockStart_of_outside {n : Nat} (outside : 32 ≤ n) (s : State) :
    exec (.commandBlockStart n) s = .fault .noSuchSlot :=
  dif_neg (Nat.not_lt.2 outside)

theorem execQualityBlockStart_of_outside {n : Nat} (outside : n < 32 ∨ 48 ≤ n) (s : State) :
    exec (.qualityBlockStart n) s = .fault .noSuchSlot :=
  dif_neg (by omega)

/-- Settles O4, by the table that each command's number is looked up in. -/
theorem numbersOutsideTheirTablesFault : Obligations.NumbersOutsideTheirTablesFault := by
  intro s n bits
  refine ⟨fun outside => ?references, fun outside => ?shelves, fun outside => ?word,
    fun outside => execCommandBlockStart_of_outside outside s,
    fun outside => execQualityBlockStart_of_outside outside s⟩
  case references =>
    simp only [exec, execEdge, execSignalLost, execFailTimerExpiry, execRestoreTimerExpiry, execMessageAgeExpiry,
      execRefusalMarkRunOut, onShelf_of_lt _ (Fin.isLt _), onRef_of_outside outside, implies_true, and_self]
  case shelves =>
    simp only [exec, execCardSilenceExpiry, execAcquireExpiry, execHoldoverAging, execRefusalMarkRunOut,
      onShelf_of_outside outside, implies_true, and_self]
  case word => rw [exec, execWordReceived, onSlot_of_outside outside]

end Sys2Proof.Machine

/-!
SUPPORT. Frames of the Distribution Highway: what a frame start makes of each slot, and the lines driven.
-/

namespace Sys2Proof.Machine

open Sys2Proof

/-! ## When a frame starts -/

theorem State.dhFrameDue_eq (s : State) : s.dhFrameDue = decide (2500 ≤ s.dh.ticks) := rfl

theorem execDhFrameStart_of_due {s : State} (running : s.resetHeld = false) (due : 2500 ≤ s.dh.ticks) :
    exec .dhFrameStart s = .next { s with dh := s.dh.startFrame } := by
  rw [exec, execDhFrameStart, eventIf_of_due _ s _ running (s.dhFrameDue_eq.trans (decide_eq_true due))]

theorem execDhFrameStart_of_early {s : State} (early : s.dh.ticks < 2500) : exec .dhFrameStart s = .next s := by
  rw [exec, execDhFrameStart, eventIf_of_not_due _ s _ (s.dhFrameDue_eq.trans (decide_eq_false (Nat.not_le.2 early)))]

/-! ## The slots of the new frame -/

theorem DhSlot.nextFrame_of_free (w : Option Byte) : DhSlot.nextFrame ⟨none, w⟩ = ⟨none, none⟩ := rfl

theorem DhSlot.nextFrame_of_sent {b : DhBlock} (sent : b.words.length ≤ b.sent) (w : Option Byte) :
    DhSlot.nextFrame ⟨some b, w⟩ = ⟨none, none⟩ := by
  simp only [DhSlot.nextFrame, if_neg (Nat.not_lt.2 sent)]

theorem DhSlot.nextFrame_of_going {b : DhBlock} (going : b.sent < b.words.length) (w : Option Byte) :
    DhSlot.nextFrame ⟨some b, w⟩ = ⟨some b, none⟩ := by
  simp only [DhSlot.nextFrame, if_pos going]

theorem slotAt_free (n : SlotNo) (bit : Nat) (w : Option Byte) : slotAt n bit ⟨none, w⟩ = ⟨none, w⟩ := rfl

/-- Bit 1 is the first bit of slot 0 and of no other slot (R134). -/
theorem slotAt_one_of_going (n : SlotNo) {b : DhBlock} (going : b.sent < b.words.length) :
    slotAt n 1 ⟨some b, none⟩
      = if n.val = 0 then ⟨some ⟨b.words, b.sent + 1⟩, b.words[b.sent]?⟩ else ⟨some b, none⟩ := by
  have word : b.words[b.sent]? = some (b.words.getD b.sent 0) := by
    rw [List.getD_eq_getElem _ _ going, List.getElem?_eq_getElem going]
  rw [slotAt, word]
  by_cases zero : n.val = 0
  · rw [if_neg (by omega), if_pos zero]
  · rw [if_pos (by omega), if_neg zero]

theorem DhTransmitter.startFrame_slot (d : DhTransmitter) (n : SlotNo) :
    d.startFrame.slots[n] = if d.enable then slotAt n 1 d.slots[n].nextFrame else DhSlot.silent := by
  simp [DhTransmitter.startFrame, DhSlot.atBit_eq]

section
variable {d : DhTransmitter} (n : SlotNo)

theorem DhTransmitter.startFrame_slot_of_disabled (off : d.enable = false) :
    d.startFrame.slots[n] = ⟨none, some 0⟩ := by
  rw [d.startFrame_slot, off, if_neg Bool.false_ne_true, DhSlot.silent]

theorem DhTransmitter.startFrame_slot_of_enabled (on : d.enable = true) :
    d.startFrame.slots[n] = slotAt n 1 d.slots[n].nextFrame := by
  rw [d.startFrame_slot, if_pos on]

end

/-! ## The lines -/

theorem DhTransmitter.framePulse_iff (d : DhTransmitter) :
    d.framePulse = true ↔ d.frame = some true ∧ d.position = 1 := by
  simp [DhTransmitter.framePulse]

/-- Bit i of slot n is bit 7 - i of its word, counted from the least significant one (R134, R168). -/
theorem DhTransmitter.dataBit_of_word {d : DhTransmitter} {n : SlotNo} {i : Fin 8} {w : Byte}
    (reached : d.position = 8 * n.val + 1 + i.val) (word : d.slots[n].word = some w) :
    d.dataBit = w.getLsbD (7 - i.val) := by
  have slot : Fin.ofNat 48 ((d.position - 1) / 8) = n := Fin.ext (by simp only [Fin.ofNat]; omega)
  have bit : (d.position - 1) % 8 = i.val := by omega
  simp only [DhTransmitter.dataBit, slot, word, bit]
  simp [BitVec.getMsbD_eq_getLsbD]

/-- Settles O28, by the transmit enable and the block in progress of each slot. -/
theorem outgoingFramesStart : Obligations.OutgoingFramesStart := by
  intro s running
  refine ⟨fun due => ⟨_, execDhFrameStart_of_due running due, rfl, fun n => ?slot⟩,
    execDhFrameStart_of_early, s.dh.framePulse_iff, fun n i w => DhTransmitter.dataBit_of_word⟩
  case slot =>
    obtain ⟨block, word, stands⟩ : ∃ block word, s.dhSlot n = ⟨block, word⟩ := ⟨_, _, rfl⟩
    have next (on : s.dh.enable = true) : s.dh.startFrame.slots[n] = slotAt n 1 (DhSlot.nextFrame ⟨block, word⟩) :=
      stands ▸ DhTransmitter.startFrame_slot_of_enabled n on
    rw [stands]
    refine ⟨DhTransmitter.startFrame_slot_of_disabled n, ?free, ?sent, ?going⟩
    case free =>
      rintro on rfl
      exact (next on).trans (by rw [DhSlot.nextFrame_of_free, slotAt_free])
    case sent =>
      rintro b on rfl sent
      exact (next on).trans (by rw [DhSlot.nextFrame_of_sent sent, slotAt_free])
    case going =>
      rintro b on rfl going
      exact (next on).trans (by rw [DhSlot.nextFrame_of_going going, slotAt_one_of_going n going])

end Sys2Proof.Machine

/-!
SUPPORT. Block starts of the Distribution Highway: when they take place, the words of a block, and the situation that a
command block carries.
-/

namespace Sys2Proof.Machine

open Sys2Proof

/-! ## When a block starts -/

theorem State.blockStartDue_iff (s : State) (n : SlotNo) :
    s.blockStartDue n = true
      ↔ s.dh.frame = some true ∧ 8 * n.val + 1 ≤ s.dh.position ∧ (s.dhSlot n).block = none
        ∧ (s.dhSlot n).word = none := by
  simp [State.blockStartDue, and_assoc]

theorem State.blockStartDue_of_free {s : State} {n : SlotNo} (sending : s.dh.frame = some true)
    (come : 8 * n.val + 1 ≤ s.dh.position) (free : s.dhSlot n = ⟨none, none⟩) : s.blockStartDue n = true :=
  (s.blockStartDue_iff n).2 ⟨sending, come, by rw [free], by rw [free]⟩

theorem State.blockStartDue_of_occupied {s : State} {n : SlotNo}
    (occupied : s.dh.frame ≠ some true ∨ s.dh.position < 8 * n.val + 1 ∨ (s.dhSlot n).block ≠ none
      ∨ (s.dhSlot n).word ≠ none) : s.blockStartDue n = false := by
  rw [← Bool.not_eq_true, s.blockStartDue_iff]
  rintro ⟨sending, come, block, word⟩
  rcases occupied with silent | early | going | sent
  · exact silent sending
  · exact Nat.not_le.2 early come
  · exact going block
  · exact sent word

/-! ## The words of a block -/

theorem wordBits_marked {v : Nat} (small : v < 128) : wordBits true v = BitVec.ofNat 8 (128 + v) := by
  rw [wordBits, if_pos rfl, Nat.mod_eq_of_lt small]

theorem wordBits_unmarked {v : Nat} (small : v < 128) : wordBits false v = BitVec.ofNat 8 v := by
  rw [wordBits, if_neg Bool.false_ne_true, Nat.mod_eq_of_lt small, Nat.zero_add]

/-- The tag marked, the other words without a mark, and the check word (R137, R140). -/
theorem outgoingBlock_of_small {tag : Nat} {rest : List Nat} (marked : tag < 128) (small : ∀ v ∈ rest, v < 128) :
    outgoingBlock (tag :: rest) = BitVec.ofNat 8 (128 + tag) :: rest.map (BitVec.ofNat 8)
      ++ [BitVec.ofNat 8 (blockCheck (tag :: rest))] := by
  have check : blockCheck (tag :: rest) < 128 := Nat.mod_lt _ (by decide)
  have others : rest.map (wordBits false) = rest.map (BitVec.ofNat 8) :=
    List.map_congr_left fun v mem => wordBits_unmarked (small v mem)
  rw [outgoingBlock, wordBits_marked marked, others, wordBits_unmarked check]

/-! ## Command blocks -/

/-- The command word and the argument word of a situation are words of the highway (R168). -/
theorem Shelf.command_small (x : Shelf) : x.command.1 < 128 ∧ x.command.2 < 128 := by
  have number (r : RefNo) : 3 < 128 ∧ r.val < 128 := ⟨by decide, by omega⟩
  rw [Shelf.command]
  cases x.admission with
  | vacant => decide
  | rejected reason => cases reason <;> decide
  | joined card =>
    dsimp only
    cases card.timing with
    | acquire r origin expiry => exact number r
    | locked r since => exact number r
    | freeRun => decide
    | holdover o =>
      show 4 < 128 ∧ 0 < 128
      decide

theorem State.commandBlock_eq {s : State} {h : ShelfNo} {command argument : Nat}
    (sampled : (s.shelf h).command = (command, argument)) :
    s.commandBlock h = [BitVec.ofNat 8 (128 + 64 + h.val), BitVec.ofNat 8 (63 - h.val), BitVec.ofNat 8 command,
      BitVec.ofNat 8 argument,
      BitVec.ofNat 8 (((64 + h.val) + 2 * (63 - h.val) + 3 * command + 4 * argument) % 128)] := by
  have small := (s.shelf h).command_small
  rw [sampled] at small
  have check : blockCheck [64 + h.val, 63 - h.val, command, argument]
      = ((64 + h.val) + 2 * (63 - h.val) + 3 * command + 4 * argument) % 128 := by
    simp only [blockCheck, weightedSum]
    omega
  rw [State.commandBlock, sampled, outgoingBlock_of_small (by omega) (by simp; omega), check, Nat.add_assoc 128]
  rfl

theorem execCommandBlockStart_eq (s : State) (h : ShelfNo) :
    exec (.commandBlockStart h.val) s
      = eventIf (s.blockStartDue (commandSlot h)) s fun s => s.startBlock (commandSlot h) (s.commandBlock h) :=
  dif_pos h.isLt

/-- Settles O29, by what makes a block start due and the situation it samples. -/
theorem commandBlocksSampleTheShelf : Obligations.CommandBlocksSampleTheShelf := by
  intro s h n command argument running slot situation
  obtain rfl : n = commandSlot h := Fin.ext slot
  have sampled : (s.shelf h).command = (command, argument) := by
    rw [situation, Shelf.command]
    rcases (s.shelf h).admission with _ | (_ | _) | ⟨_ | _ | _ | _⟩ <;> rfl
  rw [execCommandBlockStart_eq]
  refine ⟨fun sending come free => ?_, fun occupied => ?_⟩
  · rw [eventIf_of_due _ s _ running (State.blockStartDue_of_free sending come free), State.startBlock,
      State.commandBlock_eq sampled]
    rfl
  · exact eventIf_of_not_due _ s _ (State.blockStartDue_of_occupied occupied)

end Sys2Proof.Machine

/-!
SUPPORT. Quality blocks: the next LINE reference of a group, the block it sends and the code advertised.
-/

namespace Sys2Proof.Machine

open Sys2Proof

/-! ## The group of a slot and its next reference -/

theorem State.mem_qualityGroup {s : State} {j : Fin 16} {r : RefNo} :
    r ∈ s.qualityGroup j ↔ r.val % 16 = j.val ∧ (s.ref r).cfg.kind = .line := by
  simp [State.qualityGroup, allRefs]

theorem State.qualityGroup_sorted (s : State) (j : Fin 16) : (s.qualityGroup j).Pairwise (· < ·) :=
  (List.pairwise_lt_finRange 40).filter _

theorem head?_of_least {l : List RefNo} {r : RefNo} (sorted : l.Pairwise (· < ·)) (mem : r ∈ l)
    (least : ∀ x ∈ l, x ≠ r → r < x) : l.head? = some r := by
  cases l with
  | nil => exact absurd mem List.not_mem_nil
  | cons x rest =>
    rcases List.mem_cons.1 mem with rfl | later
    · rfl
    · have before : x < r := List.rel_of_pairwise_cons sorted later
      exact absurd before (least x List.mem_cons_self before.ne).not_gt

theorem State.qualitySubject_of_unset {s : State} {j : Fin 16} (unset : s.dh.rotation[j] = none) :
    s.qualitySubject j = (s.qualityGroup j).head? := by
  rw [State.qualitySubject, unset]

/-- The first reference after the rotation position, or else the first of the group (R139). -/
theorem State.qualitySubject_of_set {s : State} {j : Fin 16} {p : RefNo} (set : s.dh.rotation[j] = some p) :
    s.qualitySubject j
      = (((s.qualityGroup j).filter fun r => decide (p < r)).head?).or (s.qualityGroup j).head? := by
  rw [State.qualitySubject, set, List.head?_filter]
  dsimp only
  cases (s.qualityGroup j).find? fun r => decide (p < r) <;> rfl

theorem State.qualitySubject_of_empty {s : State} {j : Fin 16} (empty : s.qualityGroup j = []) :
    s.qualitySubject j = none := by
  rw [Option.eq_none_iff_forall_not_mem]
  intro r subject
  simpa [empty] using State.qualitySubject_mem subject

/-- With the rotation position unset the subject is the least of the group (R139). -/
theorem State.qualitySubject_of_least {s : State} {j : Fin 16} {r : RefNo} (unset : s.dh.rotation[j] = none)
    (mem : r ∈ s.qualityGroup j) (least : ∀ x ∈ s.qualityGroup j, x ≠ r → r < x) : s.qualitySubject j = some r := by
  rw [State.qualitySubject_of_unset unset, head?_of_least (s.qualityGroup_sorted j) mem least]

/-- With the rotation position at p the subject is the least of the group above p, and where the group has none above p
the least of all (R139). -/
theorem State.qualitySubject_of_next {s : State} {j : Fin 16} {p r : RefNo} (set : s.dh.rotation[j] = some p)
    (mem : r ∈ s.qualityGroup j)
    (next : ∀ x ∈ s.qualityGroup j, x ≠ r → (p < r ∧ (x ≤ p ∨ r < x)) ∨ (r ≤ p ∧ r < x ∧ x ≤ p)) :
    s.qualitySubject j = some r := by
  rw [State.qualitySubject_of_set set]
  have sorted := s.qualityGroup_sorted j
  by_cases above : p < r
  · have first : ((s.qualityGroup j).filter fun r => decide (p < r)).head? = some r := by
      refine head?_of_least (sorted.filter _) (List.mem_filter.2 ⟨mem, decide_eq_true above⟩) fun x member other => ?_
      obtain ⟨member, later⟩ := List.mem_filter.1 member
      rcases next x member other with ⟨-, passed | after⟩ | ⟨wrapped, -⟩
      · exact absurd (of_decide_eq_true later) passed.not_gt
      · exact after
      · exact absurd above wrapped.not_gt
    rw [first, Option.some_or]
  · have wrapped (x : RefNo) (member : x ∈ s.qualityGroup j) (other : x ≠ r) : r < x ∧ x ≤ p :=
      ((next x member other).resolve_left fun ahead => above ahead.1).2
    have none_above : (s.qualityGroup j).filter (fun r => decide (p < r)) = [] := by
      refine List.filter_eq_nil_iff.2 fun x member later => ?_
      have later : p < x := of_decide_eq_true later
      by_cases same : x = r
      · exact above (same ▸ later)
      · exact absurd later (wrapped x member same).2.not_gt
    rw [none_above, List.head?_nil, Option.none_or]
    exact head?_of_least sorted mem fun x member other => (wrapped x member other).1

/-! ## The block and the command -/

theorem State.qualityBlock_eq (s : State) (r : RefNo) :
    s.qualityBlock r = [BitVec.ofNat 8 (128 + r.val), BitVec.ofNat 8 (127 - r.val),
      BitVec.ofNat 8 (s.advertisedCode r).val,
      BitVec.ofNat 8 ((r.val + 2 * (127 - r.val) + 3 * (s.advertisedCode r).val) % 128)] := by
  have check : blockCheck [r.val, 127 - r.val, (s.advertisedCode r).val]
      = (r.val + 2 * (127 - r.val) + 3 * (s.advertisedCode r).val) % 128 := by
    simp only [blockCheck, weightedSum]
    omega
  rw [State.qualityBlock, outgoingBlock_of_small (by omega) (by simp; omega), check]
  rfl

theorem State.startQuality_of_idle {s : State} {j : Fin 16} (idle : s.qualitySubject j = none) :
    s.startQuality j = s.setDhSlot (qualitySlot j) ⟨none, some 0⟩ := by
  rw [State.startQuality, idle]

theorem State.startQuality_of_subject {s : State} {j : Fin 16} {r : RefNo} (subject : s.qualitySubject j = some r) :
    s.startQuality j = (s.startBlock (qualitySlot j) (s.qualityBlock r)).setRotation j r := by
  rw [State.startQuality, subject]

theorem execQualityBlockStart_eq (s : State) (j : Fin 16) :
    exec (.qualityBlockStart (qualitySlot j).val) s
      = eventIf (s.blockStartDue (qualitySlot j)) s (State.startQuality j) := by
  have number : (⟨(qualitySlot j).val - 32, by simp only [qualitySlot]; omega⟩ : Fin 16) = j :=
    Fin.ext (Nat.add_sub_cancel_left 32 j.val)
  rw [exec, execQualityBlockStart, dif_pos (by simp only [qualitySlot]; omega), number]

/-! ## The code advertised -/

theorem sendIndex_grade (i : Fin 12) : sendIndex (i.val + 1) = i.castSucc := by
  rw [sendIndex, dif_pos (by omega)]
  rfl

theorem sendIndex_fifteen : sendIndex 15 = 12 := rfl

section
variable {s : State} {r : RefNo} {h : ShelfNo}

theorem State.advertisedGrade_of_withheld (withheld : (s.shelf h).isJoined = false ∨ s.root h = some r) :
    s.advertisedGrade r h = 15 := by
  rw [State.advertisedGrade]
  rcases withheld with away | root
  · rw [away, Bool.not_false, if_pos rfl]
  · rw [root, if_pos rfl, ite_self]

theorem State.advertisedGrade_of_traced (joined : (s.shelf h).isJoined = true) (other : s.root h ≠ some r) :
    s.advertisedGrade r h = s.tracedGrade h := by
  rw [State.advertisedGrade, joined, if_neg (by decide), if_neg other]

theorem State.advertisedCode_of_place (home : (s.ref r).cfg.homeShelf = some h) {k : Fin 13}
    (place : sendIndex (s.advertisedGrade r h) = k) :
    s.advertisedCode r = (s.plan (s.ref r).cfg.codePlan).send[k] := by
  subst place
  simp only [State.advertisedCode, home]

theorem State.advertisedCode_of_fifteen (home : (s.ref r).cfg.homeShelf = some h)
    (grade : s.advertisedGrade r h = 15) : s.advertisedCode r = (s.plan (s.ref r).cfg.codePlan).send[12] :=
  State.advertisedCode_of_place home (k := 12) (by rw [grade, sendIndex_fifteen])

theorem State.advertisedCode_of_grade (home : (s.ref r).cfg.homeShelf = some h) {i : Fin 12}
    (grade : s.advertisedGrade r h = i.val + 1) :
    s.advertisedCode r = (s.plan (s.ref r).cfg.codePlan).send[i.val] :=
  State.advertisedCode_of_place home (k := i.castSucc) (by rw [grade, sendIndex_grade])

end

/-- Settles O30, by what makes a block start due, the rotation position, and the grade advertised. -/
theorem qualityBlocksTakeTheNextLine : Obligations.QualityBlocksTakeTheNextLine := by
  refine ⟨fun s j n running slot => ?_, fun s r h home => ⟨fun withheld => ?_, ?_, ?_⟩⟩
  · obtain rfl : n = qualitySlot j := Fin.ext slot
    rw [execQualityBlockStart_eq]
    refine ⟨fun sending come free => ?_, fun occupied =>
      eventIf_of_not_due _ s _ (State.blockStartDue_of_occupied occupied)⟩
    rw [eventIf_of_due _ s _ running (State.blockStartDue_of_free sending come free)]
    refine ⟨fun none_line => ?_, fun r residue line next => ?_⟩
    · have empty : s.qualityGroup j = [] := List.eq_nil_iff_forall_not_mem.2 fun r member =>
        none_line r (State.mem_qualityGroup.1 member).1 (State.mem_qualityGroup.1 member).2
      rw [State.startQuality_of_idle (State.qualitySubject_of_empty empty)]
    · have mem : r ∈ s.qualityGroup j := State.mem_qualityGroup.2 ⟨residue, line⟩
      have following (x : RefNo) (member : x ∈ s.qualityGroup j) :=
        next x (State.mem_qualityGroup.1 member).1 (State.mem_qualityGroup.1 member).2
      have subject : s.qualitySubject j = some r := by
        cases rotation : s.dh.rotation[j] with
        | none =>
          rw [rotation] at following
          exact State.qualitySubject_of_least rotation mem following
        | some p =>
          rw [rotation] at following
          exact State.qualitySubject_of_next rotation mem following
      rw [State.startQuality_of_subject subject, State.startBlock, State.qualityBlock_eq]
      rfl
  · exact State.advertisedCode_of_fifteen home (State.advertisedGrade_of_withheld withheld)
  · intro joined other traced
    exact State.advertisedCode_of_fifteen home ((State.advertisedGrade_of_traced joined other).trans traced)
  · intro i joined other traced
    exact State.advertisedCode_of_grade home ((State.advertisedGrade_of_traced joined other).trans traced)

end Sys2Proof.Machine

/-!
SUPPORT. The Report Queue by itself: what a report does to it, what COLLECT and END SERVICE do, and the bounds of R146
that each of them keeps.
-/

namespace Sys2Proof.Machine

open Sys2Proof

/-! ## The attention line -/

/-- The condition of the attention line, in words (R149). -/
theorem ReportQueue.attentionCondition_iff (q : ReportQueue) (now : Nat) :
    q.attentionCondition now = true ↔ q.service = .closed
      ∧ (q.threshold ≤ q.records.length
        ∨ (0 < q.ageLimit ∧ ∃ oldest rest, q.records = oldest :: rest ∧ q.ageLimit ≤ now - oldest.first)) := by
  unfold ReportQueue.attentionCondition
  cases q.records <;> simp

/-- While a service is open the attention line is not asserted (R149). -/
theorem ReportQueue.attentionCondition_of_opened {q : ReportQueue} (opened : q.service = .opened) (now : Nat) :
    q.attentionCondition now = false := by
  simp [ReportQueue.attentionCondition, opened]

/-- The newest record can change in all but its first time, and the condition stands (R149). -/
theorem ReportQueue.attentionCondition_of_newest {q : ReportQueue} {older : List Record} {newest y : Record}
    (records : q.records = older ++ [newest]) (first : y.first = newest.first) (now : Nat) :
    ({ q with records := older ++ [y] }).attentionCondition now = q.attentionCondition now := by
  unfold ReportQueue.attentionCondition
  rw [records]
  cases older <;> simp [first]

/-! ## A report that reaches the queue -/

theorem foldNewest_append (now : Nat) (older : List Record) (newest : Record) :
    foldNewest now (older ++ [newest]) = older ++ [{ newest with count := newest.count + 1, last := now }] := by
  induction older with
  | nil => rfl
  | cons x rest ih =>
    cases rest with
    | nil => rfl
    | cons y rest => simpa [foldNewest] using ih

/-- A report coalesces into the newest record where that is not in service, stands for the same report and for fewer
than 63 of them (R147). -/
theorem ReportQueue.coalesces_of_newest {q : ReportQueue} {older : List Record} {newest : Record}
    (records : q.records = older ++ [newest]) (rep : Report) :
    q.coalesces rep = true ↔ q.inService ≤ older.length ∧ newest.report = rep ∧ newest.count < 63 := by
  simp [ReportQueue.coalesces, records, Nat.lt_succ_iff, and_assoc]

theorem ReportQueue.coalesces_of_empty {q : ReportQueue} (records : q.records = []) (rep : Report) :
    q.coalesces rep = false := by
  simp [ReportQueue.coalesces, records]

theorem ReportQueue.take_of_coalesces {q : ReportQueue} {older : List Record} {newest : Record} {rep : Report}
    (records : q.records = older ++ [newest]) (coalesces : q.coalesces rep = true) (now : Nat) :
    q.take now rep
      = { q with records := older ++ [{ newest with count := newest.count + 1, last := now }] } := by
  rw [ReportQueue.take, if_pos coalesces, records, foldNewest_append]

theorem ReportQueue.take_of_room {q : ReportQueue} {rep : Report} (coalesces : q.coalesces rep = false)
    (room : q.records.length < 64) (now : Nat) :
    q.take now rep = ReportQueue.judge { q with records := q.records ++ [⟨rep, now, now, 1⟩] } now := by
  simp [ReportQueue.take, coalesces, room]

theorem ReportQueue.take_of_full {q : ReportQueue} {rep : Report} (coalesces : q.coalesces rep = false)
    (full : 64 ≤ q.records.length) (now : Nat) : q.take now rep = { q with lost := min (q.lost + 1) 65535 } := by
  simp [ReportQueue.take, coalesces, Nat.not_lt.2 full, bump16]

/-- The three cases of R147: a report coalesces, is appended, or is lost. -/
theorem ReportQueue.take_cases (q : ReportQueue) (now : Nat) (rep : Report) :
    (∃ (older : List Record) (newest : Record), q.records = older ++ [newest] ∧ newest.count < 63
        ∧ q.take now rep
          = { q with records := older ++ [{ newest with count := newest.count + 1, last := now }] })
      ∨ (q.records.length < 64
        ∧ q.take now rep = ReportQueue.judge { q with records := q.records ++ [⟨rep, now, now, 1⟩] } now)
      ∨ (64 ≤ q.records.length ∧ q.take now rep = { q with lost := min (q.lost + 1) 65535 }) := by
  cases coalesces : q.coalesces rep with
  | true =>
    rcases q.records.eq_nil_or_concat' with empty | ⟨older, newest, records⟩
    · simp [ReportQueue.coalesces_of_empty empty] at coalesces
    · obtain ⟨-, -, few⟩ := (ReportQueue.coalesces_of_newest records rep).1 coalesces
      exact .inl ⟨older, newest, records, few, ReportQueue.take_of_coalesces records coalesces now⟩
  | false =>
    rcases Nat.lt_or_ge q.records.length 64 with room | full
    · exact .inr (.inl ⟨room, ReportQueue.take_of_room coalesces room now⟩)
    · exact .inr (.inr ⟨full, ReportQueue.take_of_full coalesces full now⟩)

/-! ## The bounds of the queue -/

/-- What the invariant says of the queue at an office time, but for the attention line (R146, R148). -/
structure ReportQueue.Sound (now : Nat) (q : ReportQueue) : Prop where
  length : q.records.length ≤ 64
  records : ∀ x ∈ q.records, x.sound now
  mostInService : q.inService ≤ 16
  inService : q.inService ≤ q.records.length
  opened : q.service = .opened ↔ 0 < q.inService
  lost : q.lost ≤ 65535
  full : 0 < q.lost → q.records.length = 64
  leastThreshold : 1 ≤ q.threshold
  mostThreshold : q.threshold ≤ 64
  ageLimit : q.ageLimit ≤ 60

/-- A record that is appended stands for one report, posted now (R147). -/
theorem Record.sound_of_new (rep : Report) (now : Nat) : (⟨rep, now, now, 1⟩ : Record).sound now :=
  ⟨le_rfl, Nat.le_of_ble_eq_true rfl, le_rfl, le_rfl⟩

/-- The line that is judged is no part of these bounds. -/
theorem ReportQueue.Sound.judge {now : Nat} {q : ReportQueue} (h : q.Sound now) (time : Nat) :
    (q.judge time).Sound now := { h with }

/-- A report keeps the bounds, whether it coalesces, is appended or is lost (R147, R148). -/
theorem ReportQueue.Sound.take {now : Nat} {q : ReportQueue} (h : q.Sound now) (rep : Report) :
    (q.take now rep).Sound now := by
  rcases q.take_cases now rep with ⟨older, newest, records, few, e⟩ | ⟨room, e⟩ | ⟨full, e⟩ <;> rw [e]
  · have length (y : Record) : (older ++ [y]).length = q.records.length := by simp [records]
    have each := h.records
    rw [records] at each
    refine { h with
      length := (length _).trans_le h.length
      inService := h.inService.trans_eq (length _).symm
      full := fun lost => (length _).trans (h.full lost)
      records := fun x mem => ?_ }
    rcases List.mem_append.1 mem with old | new
    · exact each x (List.mem_append_left _ old)
    · obtain ⟨least, -, order, past⟩ := each newest (by simp)
      rw [List.mem_singleton.1 new]
      exact ⟨by simp, few, order.trans past, le_rfl⟩
  · have appended : ({ q with records := q.records ++ [⟨rep, now, now, 1⟩] } : ReportQueue).Sound now := { h with
      length := by simpa using room
      inService := h.inService.trans (by simp)
      full := fun lost => absurd (h.full lost) room.ne
      records := fun x mem => by
        rcases List.mem_append.1 mem with old | new
        · exact h.records x old
        · rw [List.mem_singleton.1 new]
          exact Record.sound_of_new rep now }
    exact appended.judge now
  · exact { h with lost := Nat.min_le_right _ _, full := fun _ => h.length.antisymm full }

/-- A report leaves the attention line on its condition (R149). -/
theorem ReportQueue.take_attention {now : Nat} {q : ReportQueue} (line : q.attention = q.attentionCondition now)
    (rep : Report) : (q.take now rep).attention = (q.take now rep).attentionCondition now := by
  rcases q.take_cases now rep with ⟨older, newest, records, -, e⟩ | ⟨-, e⟩ | ⟨-, e⟩ <;> rw [e]
  · exact line.trans (ReportQueue.attentionCondition_of_newest records (by rfl) now).symm
  · rfl
  · exact line

/-- Records keep their order of times as office time rises (R23, R146). -/
theorem ReportQueue.Sound.later {now time : Nat} {q : ReportQueue} (h : q.Sound now) (later : now ≤ time) :
    q.Sound time :=
  { h with
    records := fun x mem => by
      obtain ⟨least, most, order, past⟩ := h.records x mem
      exact ⟨least, most, order, past.trans later⟩ }

/-- The queue after reset holds its START record alone (R166). -/
theorem ReportQueue.initial_sound (cause : ResetCause) : (ReportQueue.initial cause).Sound 0 where
  length := by simp [ReportQueue.initial]
  records := by simpa [ReportQueue.initial] using Record.sound_of_new (.start cause) 0
  mostInService := by simp [ReportQueue.initial]
  inService := by simp [ReportQueue.initial]
  opened := by simp [ReportQueue.initial]
  lost := by simp [ReportQueue.initial]
  full := by simp [ReportQueue.initial]
  leastThreshold := by simp [ReportQueue.initial]
  mostThreshold := by simp [ReportQueue.initial]
  ageLimit := by simp [ReportQueue.initial]

/-! ## The service -/

/-- COLLECT finds an empty queue or a service open and changes nothing, or opens a service (R151). -/
theorem ReportQueue.collect_cases (most : Nat) (q : ReportQueue) :
    q.collect most = q
      ∨ q.service = .closed ∧ 0 < q.records.length ∧ q.collect most = q.openService most := by
  unfold ReportQueue.collect
  split
  · rename_i closed records
    exact .inr ⟨closed, by simp [records], rfl⟩
  · exact .inl rfl
  · exact .inl rfl

/-- A service of 1 to 16 records is opened on a queue that holds some (R151). -/
theorem ReportQueue.Sound.openService {now : Nat} {q : ReportQueue} (h : q.Sound now) (nonempty : 0 < q.records.length)
    {most : Nat} (least : 1 ≤ most) (largest : most ≤ 16) : (q.openService most).Sound now :=
  { h with
    mostInService := (Nat.min_le_right _ _).trans largest
    inService := Nat.min_le_left _ _
    opened := ⟨fun _ => Nat.lt_min.2 ⟨nonempty, least⟩, fun _ => rfl⟩ }

/-- The end of a service removes records, and the lost tally with them (R152). -/
theorem ReportQueue.Sound.close {now : Nat} {q : ReportQueue} (h : q.Sound now) : (q.close now).Sound now := by
  have removed : ({ q with
      records := q.records.drop q.inService, lost := 0, service := .closed, inService := 0 } : ReportQueue).Sound now :=
    { h with
      length := (List.drop_sublist _ _).length_le.trans h.length
      records := fun x mem => h.records x (List.mem_of_mem_drop mem)
      mostInService := Nat.zero_le _
      inService := Nat.zero_le _
      opened := by simp
      lost := Nat.zero_le _
      full := fun none => absurd none (lt_irrefl 0) }
  exact removed.judge now

end Sys2Proof.Machine

/-!
SUPPORT. COLLECT, END SERVICE and the posting of a report, in the words of their statements.
-/

namespace Sys2Proof.Machine

open Sys2Proof

/-! ## COLLECT -/

theorem ReportQueue.collect_of_empty {q : ReportQueue} (closed : q.service = .closed) (empty : q.records = [])
    (most : Nat) : q.collect most = q := by
  simp [ReportQueue.collect, closed, empty]

theorem ReportQueue.collect_of_closed {q : ReportQueue} (closed : q.service = .closed) (nonempty : q.records ≠ [])
    (most : Nat) : q.collect most = q.openService most := by
  obtain ⟨oldest, rest, records⟩ := List.exists_cons_of_ne_nil nonempty
  simp [ReportQueue.collect, closed, records]

theorem ReportQueue.collect_of_opened {q : ReportQueue} (opened : q.service = .opened) (most : Nat) :
    q.collect most = q := by
  simp [ReportQueue.collect, opened]

theorem ReportQueue.putService_of_empty {q : ReportQueue} (closed : q.service = .closed) (empty : q.records = []) :
    q.putService = put8 0 ++ put8 0 ++ put16 q.lost ++ put8 (q.records.take q.inService).length := by
  simp [ReportQueue.putService, closed, empty, ServiceState.code]

theorem ReportQueue.putService_of_opened {q : ReportQueue} (opened : q.service = .opened) :
    q.putService = put8 1 ++ put8 q.records.length ++ put16 q.lost ++ put8 (q.records.take q.inService).length
      ++ (q.records.take q.inService).flatMap Record.put := by
  rw [ReportQueue.putService, opened]
  rfl

/-- The records a service opens on are the oldest, as many as there are and at most the number asked for (R151). -/
theorem ReportQueue.openService_taken (most : Nat) (q : ReportQueue) :
    (q.openService most).records.take (q.openService most).inService = q.records.take most := by
  change q.records.take (min q.records.length most) = _
  rw [Nat.min_comm, ← List.take_eq_take_min]

/-- COLLECT with a number in its range or clamped to it (R151). -/
theorem serveCollect_of_number {n : Nat} (byte : n ≤ 255) (s : State) :
    serveCollect (put8 n) s
      = accept { s with queue := s.queue.collect (max 1 (min 16 n)) } (decide (max 1 (min 16 n) ≠ n))
          (s.queue.collect (max 1 (min 16 n))).putService := by
  simp only [serveCollect, length_put8, ne_eq, not_true_eq_false, if_false, byteAt_put8 byte, clampNat_eq,
    bne_eq_decide_ne]

/-! ## END SERVICE -/

theorem serveEndService_of_closed {s : State} (closed : s.queue.service = .closed) :
    serveEndService [] s = refuse s .noService [] := by
  simp [serveEndService, closed]

theorem serveEndService_of_opened {s : State} (opened : s.queue.service = .opened) :
    serveEndService [] s
      = accept { s with queue := s.queue.close s.now } false
          (put8 (s.queue.records.take s.queue.inService).length ++ put16 s.queue.lost
            ++ put8 (s.queue.close s.now).records.length) := by
  simp [serveEndService, opened]

/-- Settles O49, by the service that stands and whether the queue holds records. -/
theorem collectAndEndService : Obligations.CollectAndEndService := by
  refine fun s f => ⟨fun n m asks body byte number => ?_, fun asks body => ⟨fun closed => ?_, fun opened => ?_⟩⟩
  · subst number
    rw [exec, execCollect, takeRequest_of_asks _ _ s 18 f asks rfl, body, serveCollect_of_number byte,
      State.sendReply_accept]
    refine ⟨fun closed empty => ?_, fun closed nonempty => ?_, fun opened => ?_⟩
    · rw [ReportQueue.collect_of_empty closed empty, ReportQueue.putService_of_empty closed empty]
    · rw [ReportQueue.collect_of_closed closed nonempty, ReportQueue.putService_of_opened (by rfl),
        ReportQueue.openService_taken]
      rfl
    · rw [ReportQueue.collect_of_opened opened, ReportQueue.putService_of_opened opened]
  · rw [exec, execEndService, takeRequest_of_asks _ _ s 19 f asks rfl, body, serveEndService_of_closed closed,
      State.sendReply_refuse]
  · refine ⟨s.queue.close s.now, ?_, rfl⟩
    rw [exec, execEndService, takeRequest_of_asks _ _ s 19 f asks rfl, body, serveEndService_of_opened opened,
      State.sendReply_accept]

/-! ## Posting -/

/-- A report passes where the mask of its reference or of its shelf, if it has one, lets it through (R145). -/
theorem State.lets_of_masks {s : State} {rep : Report}
    (ref : ∀ r, rep.subject = .reference r → (s.ref r).cfg.reportMask.getLsbD (rep.kindNumber - 1) = true)
    (shelf : ∀ h, rep.subject = .shelf h → (s.shelf h).cfg.reportMask.getLsbD (rep.kindNumber - 8) = true) :
    s.lets rep = true := by
  unfold State.lets
  split
  · exact ref _ ‹_›
  · exact shelf _ ‹_›
  · rfl

theorem State.lets_of_refMask {s : State} {rep : Report} {r : RefNo} (subject : rep.subject = .reference r) :
    s.lets rep = (s.ref r).cfg.reportMask.getLsbD (rep.kindNumber - 1) := by
  simp [State.lets, subject]

theorem State.lets_of_shelfMask {s : State} {rep : Report} {h : ShelfNo} (subject : rep.subject = .shelf h) :
    s.lets rep = (s.shelf h).cfg.reportMask.getLsbD (rep.kindNumber - 8) := by
  simp [State.lets, subject]

/-- The negation of R147's first case: no record at all, or a newest one that the report does not fold into. -/
theorem ReportQueue.coalesces_eq_false {q : ReportQueue} {rep : Report}
    (apart : q.records = [] ∨ ∃ (older : List Record) (newest : Record), q.records = older ++ [newest]
      ∧ (older.length < q.inService ∨ newest.report ≠ rep ∨ 63 ≤ newest.count)) : q.coalesces rep = false := by
  rcases apart with empty | ⟨older, newest, records, other⟩
  · exact ReportQueue.coalesces_of_empty empty rep
  · refine Bool.eq_false_iff.2 fun coalesces => ?_
    obtain ⟨free, same, few⟩ := (ReportQueue.coalesces_of_newest records rep).1 coalesces
    rcases other with served | differs | full
    · exact served.not_ge free
    · exact differs same
    · exact full.not_gt few

/-- Settles O52: the masks, then the three cases of a report that passes, then the condition of the line. -/
theorem reportsReachTheQueue : Obligations.ReportsReachTheQueue := by
  refine ⟨fun s rep => ⟨s.post_same rep, fun r subject masked => ?_, fun h subject masked => ?_, fun ref shelf => ?_⟩,
    ReportQueue.attentionCondition_iff⟩
  · exact s.post_of_masked rep ((State.lets_of_refMask subject).trans masked)
  · exact s.post_of_masked rep ((State.lets_of_shelfMask subject).trans masked)
  · rw [s.post_of_let rep (State.lets_of_masks ref shelf)]
    refine ⟨fun older newest records free same few => ?_, fun apart => ?_⟩
    · subst same
      exact ReportQueue.take_of_coalesces records
        ((ReportQueue.coalesces_of_newest records _).2 ⟨free, rfl, few⟩) s.now
    · have new := ReportQueue.coalesces_eq_false apart
      exact ⟨fun room => ⟨_, ReportQueue.take_of_room new room s.now, rfl⟩,
        fun full => ReportQueue.take_of_full new full s.now⟩

end Sys2Proof.Machine

/-!
SUPPORT. What keeps the Report Queue of a running part within its bounds: a report, and every operation on shelves,
references and words that writes no more of the queue than its reports.
-/

namespace Sys2Proof.Machine

open Sys2Proof

/-! ## The invariant, in parts -/

/-- The invariant of the queue as the bounds of the queue and the condition of its line. -/
theorem State.queueSound_iff (s : State) :
    s.queueSound ↔ s.now ≤ Config.topTime ∧ s.queue.Sound s.now
      ∧ s.queue.attention = (!s.resetHeld && s.queue.attentionCondition s.now) :=
  ⟨fun ⟨time, length, records, most, inService, opened, lost, full, least, threshold, age, line⟩ =>
      ⟨time, ⟨length, records, most, inService, opened, lost, full, least, threshold, age⟩, line⟩,
    fun ⟨time, h, line⟩ => ⟨time, h.length, h.records, h.mostInService, h.inService, h.opened, h.lost, h.full,
      h.leastThreshold, h.mostThreshold, h.ageLimit, line⟩⟩

/-- The part is out of reset, its queue is within its bounds and the attention line is on its condition (R146, R149). -/
structure State.QueueRunning (s : State) : Prop where
  running : s.resetHeld = false
  time : s.now ≤ Config.topTime
  sound : s.queue.Sound s.now
  line : s.queue.attention = s.queue.attentionCondition s.now

theorem State.QueueRunning.queueSound {s : State} (h : s.QueueRunning) : s.queueSound :=
  s.queueSound_iff.2 ⟨h.time, h.sound, by rw [h.running]; exact h.line⟩

theorem State.queueRunning_of_sound {s : State} (running : s.resetHeld = false) (sound : s.queueSound) :
    s.QueueRunning := by
  obtain ⟨time, bounds, line⟩ := s.queueSound_iff.1 sound
  rw [running] at line
  exact ⟨running, time, bounds, line⟩

/-- The invariant rests on office time, the reset pin and the queue alone. -/
theorem State.queueSound_congr {s t : State} (now : t.now = s.now) (held : t.resetHeld = s.resetHeld)
    (queue : t.queue = s.queue) (sound : s.queueSound) : t.queueSound := by
  simpa only [State.queueSound_iff, now, held, queue] using sound

/-- The queue of t is that of a running part, within its bounds, where that of s is. -/
def KeepsQueue (s t : State) : Prop := s.QueueRunning → t.QueueRunning

theorem KeepsQueue.refl (s : State) : KeepsQueue s s := id

theorem KeepsQueue.trans {s t u : State} (a : KeepsQueue s t) (b : KeepsQueue t u) : KeepsQueue s u := b ∘ a

/-- Nothing that the invariant rests on is written. -/
theorem KeepsQueue.of_queue {s t : State} (now : t.now = s.now) (held : t.resetHeld = s.resetHeld)
    (queue : t.queue = s.queue) : KeepsQueue s t := fun h =>
  ⟨held.trans h.running, now ▸ h.time, now ▸ queue ▸ h.sound, now ▸ queue ▸ h.line⟩

/-- The queue is written, within its bounds and with its line on its condition. -/
theorem State.writeQueue_keepsQueue {s : State} {q : ReportQueue} (sound : s.queue.Sound s.now → q.Sound s.now)
    (line : s.queue.attention = s.queue.attentionCondition s.now → q.attention = q.attentionCondition s.now) :
    KeepsQueue s { s with queue := q } := fun h => ⟨h.running, h.time, sound h.sound, line h.line⟩

/-! ## Reports -/

/-- A report posted keeps the queue, whether its mask lets it through or not (R145, R147). -/
theorem State.post_keepsQueue (rep : Report) (s : State) : KeepsQueue s (s.post rep) := by
  cases lets : s.lets rep with
  | false => rw [State.post_of_masked rep s lets]; exact .refl s
  | true =>
    rw [State.post_of_let rep s lets]
    exact State.writeQueue_keepsQueue (·.take rep) (ReportQueue.take_attention · rep)

theorem KeepsQueue.foldl {α : Type} {f : State → α → State} (step : ∀ s a, KeepsQueue s (f s a)) (l : List α)
    (s : State) : KeepsQueue s (l.foldl f s) := by
  induction l generalizing s with
  | nil => exact .refl s
  | cons a rest ih => exact (step s a).trans (ih _)

/-- An operation whose effect on the queue is that of reports posted one after another. -/
theorem Posts.keepsQueue {reps : List Report} {s t : State} (posts : Posts reps s t)
    (held : t.resetHeld = s.resetHeld) : KeepsQueue s t := by
  have posted : KeepsQueue s (s.postAll reps) := KeepsQueue.foldl (fun u rep => u.post_keepsQueue rep) reps s
  have moved := ShelfMove.foldl (fun (u : State) rep => u.post rep) (fun u rep => u.post_shelfMove rep) reps s
  exact posted.trans (.of_queue (posts.masks.now.trans moved.sameMasks.now.symm) (held.trans moved.resetHeld.symm)
    posts.queue)

theorem State.handOnGrades_keepsQueue (before s : State) : KeepsQueue s (before.handOnGrades s) :=
  (before.handOnGrades_posts s).keepsQueue (before.handOnGrades_shelfMove s).resetHeld

theorem State.regrading_keepsQueue {f : State → State} {s : State} (h : KeepsQueue s (f s)) :
    KeepsQueue s (State.regrading f s) := h.trans (s.handOnGrades_keepsQueue (f s))

/-! ## Moving a shelf -/

theorem State.leavePassPending_keepsQueue (s : State) : KeepsQueue s s.leavePassPending := .of_queue rfl rfl rfl

theorem State.setShelf_keepsQueue (h : ShelfNo) (x : Shelf) (s : State) : KeepsQueue s (s.setShelf h x) :=
  .of_queue rfl rfl rfl

theorem State.mapCard_keepsQueue (h : ShelfNo) (f : JoinedCard → JoinedCard) (s : State) :
    KeepsQueue s (s.mapCard h f) :=
  have moved := s.mapCard_shelfMove h f
  .of_queue moved.sameMasks.now moved.resetHeld (s.mapCard_queue h f)

theorem State.setTiming_keepsQueue (h : ShelfNo) (t : Timing) (s : State) : KeepsQueue s (s.setTiming h t) :=
  (s.mapCard_keepsQueue h _).trans (State.leavePassPending_keepsQueue _)

theorem State.moveShelf_keepsQueue (h : ShelfNo) (t : Timing) (s : State) : KeepsQueue s (s.moveShelf h t) :=
  (s.setTiming_keepsQueue h t).trans (State.post_keepsQueue _ _)

theorem State.leaveLocked_keepsQueue (h : ShelfNo) (s : State) : KeepsQueue s (s.leaveLocked h) := by
  unfold State.leaveLocked
  split
  · exact s.moveShelf_keepsQueue h _
  · exact .refl s

theorem State.leaveAcquire_keepsQueue (h : ShelfNo) (rep : RefNo → Report) (s : State) :
    KeepsQueue s (s.leaveAcquire h rep) := by
  unfold State.leaveAcquire
  split
  · exact ((s.setTiming_keepsQueue h _).trans (State.post_keepsQueue _ _)).trans (State.post_keepsQueue _ _)
  · exact .refl s

theorem State.takeOff_keepsQueue (h : ShelfNo) (r : RefNo) (s : State) : KeepsQueue s (s.takeOff h r) :=
  (s.takeOff_posts h r).keepsQueue (s.takeOff_shelfMove h r).resetHeld

theorem State.enterAcquire_keepsQueue (h : ShelfNo) (r : RefNo) (s : State) : KeepsQueue s (s.enterAcquire h r) := by
  unfold State.enterAcquire
  split
  · exact s.moveShelf_keepsQueue h _
  · exact .refl s

theorem State.dropRequest_keepsQueue (h : ShelfNo) (s : State) : KeepsQueue s (s.dropRequest h) := by
  have dropped := (s.mapCard_keepsQueue h fun c => { c with request := .none }).trans
    (State.leavePassPending_keepsQueue _)
  unfold State.dropRequest
  split
  · exact .refl s
  · exact dropped
  · exact dropped.trans (State.post_keepsQueue _ _)

theorem State.ageHoldover_keepsQueue (h : ShelfNo) (s : State) : KeepsQueue s (s.ageHoldover h) :=
  ((s.mapCard_keepsQueue h _).trans (State.leavePassPending_keepsQueue _)).trans (State.post_keepsQueue _ _)

/-! ## Moving a reference -/

theorem State.becomeAvailable_keepsQueue (r : RefNo) (d : AvailableDetail) (s : State) :
    KeepsQueue s (s.becomeAvailable r d) :=
  ((s.setAvailability_posts r _ _ _).trans (State.post_posts _ _)).keepsQueue (s.becomeAvailable_refMove r d).resetHeld

theorem State.enterFailed_keepsQueue (r : RefNo) (d : FailDetail) (s : State) : KeepsQueue s (s.enterFailed r d) :=
  (s.enterFailed_posts r d).keepsQueue (s.enterFailed_refMove r d).resetHeld

theorem State.takeDefect_keepsQueue (before : State) (r : RefNo) (s : State) : KeepsQueue s (before.takeDefect r s) :=
  (before.takeDefect_move r s).posts.keepsQueue (before.takeDefect_refMove r s).resetHeld

theorem State.setRun_keepsQueue (r : RefNo) (f : RefRunning → RefRunning) (s : State) : KeepsQueue s (s.setRun r f) :=
  .of_queue rfl rfl rfl

theorem State.setChan_keepsQueue (r : RefNo) (x : Channel) (s : State) : KeepsQueue s (s.setChan r x) :=
  .of_queue rfl rfl rfl

theorem State.setCardDefect_keepsQueue (r : RefNo) (d : Bool) (s : State) : KeepsQueue s (s.setCardDefect r d) :=
  (s.setRun_keepsQueue r _).trans (s.takeDefect_keepsQueue r _)

theorem State.takeEdge_keepsQueue (r : RefNo) (s : State) : KeepsQueue s (s.takeEdge r) := by
  have posted (a b : FreqState) (u : State) : KeepsQueue u (u.postFreq r a b) := by
    unfold State.postFreq
    split
    · exact .refl u
    · exact u.post_keepsQueue _
  rw [State.takeEdge_eq]
  exact ((s.setChan_keepsQueue r _).trans (posted _ _ _)).trans (s.takeDefect_keepsQueue r _)

theorem State.loseSignal_keepsQueue (r : RefNo) (s : State) : KeepsQueue s (s.loseSignal r) :=
  State.regrading_keepsQueue ((s.setChan_keepsQueue r _).trans (s.takeDefect_keepsQueue r _))

theorem State.goStale_keepsQueue (r : RefNo) (s : State) : KeepsQueue s (s.goStale r) :=
  ((s.setRun_keepsQueue r _).trans (State.post_keepsQueue _ _)).trans (State.setCardDefect_keepsQueue r false _)

theorem State.deliverStatus_keepsQueue (r : RefNo) (c : Code) (d : Bool) (s : State) :
    KeepsQueue s (s.deliverStatus r c d) := by
  have taken (u : State) : KeepsQueue u (u.takeCode r c) := by
    unfold State.takeCode
    split
    · exact u.setRun_keepsQueue r _
    · exact .refl u
  exact ((s.setRun_keepsQueue r _).trans (State.regrading_keepsQueue (State.setCardDefect_keepsQueue r d _))).trans
    (State.regrading_keepsQueue (taken _))

theorem State.reconfigure_keepsQueue (r : RefNo) (cfg : RefConfig) (s : State) :
    KeepsQueue s (s.reconfigure r cfg) := by
  have stored : KeepsQueue s ((s.setRef r ⟨cfg, (s.ref r).run.restart⟩).setChan r (s.chan r).restart).leavePassPending :=
    .of_queue rfl rfl rfl
  unfold State.reconfigure
  dsimp only
  split
  · exact stored
  · exact stored.trans (State.post_keepsQueue _ _)

theorem State.clearRestoring_keepsQueue (r : RefNo) (s : State) : KeepsQueue s (s.clearRestoring r) := by
  unfold State.clearRestoring
  split
  · exact s.becomeAvailable_keepsQueue r _
  · exact .refl s

/-! ## Cards -/

theorem State.vacate_keepsQueue (h : ShelfNo) (rep : Report) (s : State) : KeepsQueue s (s.vacate h rep) :=
  .trans (t := s.setAdmission h .vacant) (.of_queue rfl rfl rfl) (State.post_keepsQueue _ _)

theorem State.reject_keepsQueue (h : ShelfNo) (reason : RejectReason) (s : State) :
    KeepsQueue s (s.reject h reason) := by
  unfold State.reject
  refine KeepsQueue.trans ?_ (State.post_keepsQueue _ _)
  split
  · exact s.setShelf_keepsQueue h _
  · exact (s.setShelf_keepsQueue h _).trans (State.leavePassPending_keepsQueue _)

theorem State.admitCard_keepsQueue (h : ShelfNo) (cls : CardClass) (s : State) : KeepsQueue s (s.admitCard h cls) := by
  have admitted : KeepsQueue s (s.setAdmission h (.joined (.fresh cls))) := .of_queue rfl rfl rfl
  unfold State.admitCard
  split_ifs
  · exact s.reject_keepsQueue h _
  · exact s.reject_keepsQueue h _
  · exact (admitted.trans (State.post_keepsQueue _ _)).trans (State.post_keepsQueue _ _)

theorem State.restartCard_keepsQueue (h : ShelfNo) (cls : CardClass) (s : State) :
    KeepsQueue s (s.restartCard h cls) := by
  have restarted := (s.mapCard_keepsQueue h fun c => { c with cardClass := cls }).trans
    (State.post_keepsQueue (.cardRestart h cls) _)
  unfold State.restartCard
  split_ifs
  · exact s.reject_keepsQueue h _
  · dsimp only
    split
    · exact restarted
    · exact restarted.trans (State.moveShelf_keepsQueue h _ _)

theorem State.loseLock_keepsQueue (h : ShelfNo) (r : RefNo) (s : State) : KeepsQueue s (s.loseLock h r) :=
  (KeepsQueue.trans (t := s.markRefused h r) (s.setShelf_keepsQueue h _) (State.post_keepsQueue _ _)).trans
    (State.leaveLocked_keepsQueue h _)

theorem State.lock_keepsQueue (h : ShelfNo) (r : RefNo) (s : State) : KeepsQueue s (s.lock h r) :=
  ((s.setTiming_keepsQueue h _).trans (State.post_keepsQueue _ _)).trans (State.post_keepsQueue _ _)

theorem State.takeTracking_keepsQueue (h : ShelfNo) (x : RefNo) (s : State) : KeepsQueue s (s.takeTracking h x) := by
  unfold State.takeTracking
  split
  · split
    · exact s.lock_keepsQueue h _
    · exact .refl s
  · split
    · exact .refl s
    · exact s.loseLock_keepsQueue h _
  · exact s.post_keepsQueue _
  · exact s.post_keepsQueue _
  · exact .refl s

theorem State.takeFree_keepsQueue (h : ShelfNo) (s : State) : KeepsQueue s (s.takeFree h) := by
  unfold State.takeFree
  split
  · exact s.loseLock_keepsQueue h _
  · exact .refl s

theorem State.takeReport_keepsQueue (h : ShelfNo) (rep : CardReport) (s : State) :
    KeepsQueue s (s.takeReport h rep) := by
  unfold State.takeReport
  rcases (s.shelf h).admission with _ | _ | _ <;> cases rep
  case vacant.announce | rejected.announce => exact s.admitCard_keepsQueue h _
  case joined.announce => exact s.restartCard_keepsQueue h _
  case rejected.withdraw | joined.withdraw => exact s.vacate_keepsQueue h _
  case joined.tracking => exact s.takeTracking_keepsQueue h _
  case joined.free => exact s.takeFree_keepsQueue h
  all_goals exact .refl s

theorem State.deliverReport_keepsQueue (h : ShelfNo) (rep : CardReport) (s : State) :
    KeepsQueue s (s.deliverReport h rep) :=
  (s.setShelf_keepsQueue h _).trans (State.regrading_keepsQueue (State.takeReport_keepsQueue h rep _))

theorem State.goSilent_keepsQueue (h : ShelfNo) (s : State) : KeepsQueue s (s.goSilent h) := by
  have silent := s.setShelf_keepsQueue h { s.shelf h with silence := none }
  unfold State.goSilent
  dsimp only
  split
  · exact silent
  · exact silent.trans (State.vacate_keepsQueue h _ _)
  · exact silent.trans (State.vacate_keepsQueue h _ _)

theorem State.timeOut_keepsQueue (h : ShelfNo) (s : State) : KeepsQueue s (s.timeOut h) := by
  unfold State.timeOut
  split
  · exact .trans (s.setShelf_keepsQueue h _) (State.leaveAcquire_keepsQueue h _ _)
  · exact .refl s

/-! ## Shelves configured, locked out and visited -/

theorem State.dropUnoffered_keepsQueue (h : ShelfNo) (s : State) : KeepsQueue s (s.dropUnoffered h) := by
  unfold State.dropUnoffered
  split
  · exact .refl s
  · split
    · exact .refl s
    · exact s.dropRequest_keepsQueue h
  · split
    · exact .refl s
    · exact s.dropRequest_keepsQueue h

theorem State.resettleAging_keepsQueue (h : ShelfNo) (before : Nat) (s : State) :
    KeepsQueue s (s.resettleAging h before) := by
  unfold State.resettleAging
  split
  · split_ifs
    · exact .refl s
    · exact s.ageHoldover_keepsQueue h
    · exact s.mapCard_keepsQueue h _
  · exact .refl s

theorem State.settleShelf_keepsQueue (h : ShelfNo) (s : State) : KeepsQueue s (s.settleShelf h) := by
  unfold State.settleShelf
  split
  · split_ifs
    · exact s.reject_keepsQueue h _
    · exact s.reject_keepsQueue h _
    · split
      · split
        · exact .refl s
        · exact s.leaveLocked_keepsQueue h
      · exact .refl s
  · exact .refl s

theorem State.reconfigureShelf_keepsQueue (h : ShelfNo) (cfg : ShelfConfig) (list : List Candidate) (s : State) :
    KeepsQueue s (s.reconfigureShelf h cfg list) :=
  ((((s.setShelf_keepsQueue h _).trans (State.dropUnoffered_keepsQueue h _)).trans
    (State.resettleAging_keepsQueue h _ _)).trans (State.settleShelf_keepsQueue h _)).trans
    (State.leavePassPending_keepsQueue _)

theorem State.dropTarget_keepsQueue (h : ShelfNo) (r : RefNo) (s : State) : KeepsQueue s (s.dropTarget h r) := by
  unfold State.dropTarget
  split
  · exact .refl s
  · split
    · exact s.dropRequest_keepsQueue h
    · exact .refl s
  · split
    · exact s.dropRequest_keepsQueue h
    · exact .refl s

theorem State.lockOut_keepsQueue (h : ShelfNo) (r : RefNo) (was on : Bool) (s : State) :
    KeepsQueue s (s.lockOut h r was on) := by
  have written (b : Bool) : KeepsQueue s (s.setLockout h r b) := .of_queue rfl rfl rfl
  unfold State.lockOut
  split_ifs
  · exact .refl s
  · exact ((written true).trans (State.dropTarget_keepsQueue h r _)).trans (State.takeOff_keepsQueue h r _)
  · exact written false

theorem State.setRequest_keepsQueue (h : ShelfNo) (x : SwitchRequest) (s : State) : KeepsQueue s (s.setRequest h x) :=
  (s.mapCard_keepsQueue h _).trans (State.leavePassPending_keepsQueue _)

theorem State.applyChoice_keepsQueue (h : ShelfNo) (choice : Option RefNo) (s : State) :
    KeepsQueue s (s.applyChoice h choice) := by
  unfold State.applyChoice
  split
  · exact s.enterAcquire_keepsQueue h _
  · exact s.enterAcquire_keepsQueue h _
  · split
    · exact .refl s
    · exact s.enterAcquire_keepsQueue h _
  · exact s.leaveLocked_keepsQueue h
  · exact .refl s

theorem State.dropIneligible_keepsQueue (h : ShelfNo) (s : State) : KeepsQueue s (s.dropIneligible h) := by
  unfold State.dropIneligible
  split
  · split
    · exact .refl s
    · exact s.dropRequest_keepsQueue h
  · exact .refl s

theorem State.visit_keepsQueue (h : ShelfNo) (s : State) : KeepsQueue s (s.visit h) := by
  unfold State.visit
  split_ifs
  · exact s.mapCard_keepsQueue h _
  · exact ((s.dropIneligible_keepsQueue h).trans (State.mapCard_keepsQueue h _ _)).trans
      (State.applyChoice_keepsQueue h _ _)
  · exact .refl s

theorem State.endPass_keepsQueue (s : State) : KeepsQueue s s.endPass := by
  have written (e : Engine) : KeepsQueue s { s with engine := e } := .of_queue rfl rfl rfl
  unfold State.endPass
  split_ifs
  · exact written _
  · exact written _
  · exact (written _).trans (State.post_keepsQueue _ _)

/-! ## Words, pulses and bytes -/

/-- The Quality Highway Receiver is written and a report posted. -/
theorem State.writeQh_keepsQueue (q : QhReceiver) (rep : Report) (s : State) :
    KeepsQueue s (({ s with qh := q }).post rep) :=
  .trans (t := { s with qh := q }) (.of_queue rfl rfl rfl) (State.post_keepsQueue _ _)

theorem State.setAssembler_keepsQueue (n : SlotNo) (a : Assembler) (s : State) : KeepsQueue s (s.setAssembler n a) :=
  .of_queue rfl rfl rfl

theorem State.openBlock_keepsQueue (n : SlotNo) (tag : WordValue) (s : State) : KeepsQueue s (s.openBlock n tag) := by
  unfold State.openBlock
  split_ifs
  · exact s.setAssembler_keepsQueue n _
  · exact s.setAssembler_keepsQueue n _
  · exact (s.setAssembler_keepsQueue n _).trans (State.writeQh_keepsQueue _ _ _)

theorem State.judgeBlock_keepsQueue (n : SlotNo) (words : List WordValue) (s : State) :
    KeepsQueue s (s.judgeBlock n words) := by
  unfold State.judgeBlock
  split
  · exact s.writeQh_keepsQueue _ _
  · split
    · unfold State.deliver
      split
      · exact s.deliverStatus_keepsQueue _ _ _
      · exact s.deliverReport_keepsQueue _ _
    · exact s.writeQh_keepsQueue _ _

theorem State.feedWord_keepsQueue (n : SlotNo) (w : HighwayWord) (s : State) : KeepsQueue s (s.feedWord n w) := by
  unfold State.feedWord
  split
  · exact .refl s
  · exact s.openBlock_keepsQueue n _
  · split
    · exact (s.setAssembler_keepsQueue n .hunt).trans (State.judgeBlock_keepsQueue n _ _)
    · exact s.setAssembler_keepsQueue n _
  · exact (s.writeQh_keepsQueue _ _).trans (State.openBlock_keepsQueue n _ _)

theorem State.countMiss_keepsQueue (f : Framing) (s : State) : KeepsQueue s (s.countMiss f) := by
  unfold State.countMiss
  split
  · exact s.writeQh_keepsQueue _ _
  · exact .of_queue rfl rfl rfl

theorem State.startFrame_keepsQueue (pulse : Bool) (f : Framing) (s : State) : KeepsQueue s (s.startFrame pulse f) := by
  unfold State.startFrame
  split_ifs
  · exact .of_queue rfl rfl rfl
  · exact .of_queue rfl rfl rfl
  · exact s.countMiss_keepsQueue _

theorem State.huntAgain_keepsQueue (s : State) : KeepsQueue s s.huntAgain := .of_queue rfl rfl rfl

theorem State.receiveIn_keepsQueue (x : Receive) (s : State) : KeepsQueue s (s.receiveIn x) := .of_queue rfl rfl rfl

theorem State.frameComplete_keepsQueue (a : Assembly) (first second : Byte) (s : State) :
    KeepsQueue s (s.frameComplete a first second) := by
  unfold State.frameComplete State.bufferFrame
  split_ifs
  · exact .of_queue rfl rfl rfl
  · exact s.huntAgain_keepsQueue.trans (State.post_keepsQueue _ _)
  · exact s.huntAgain_keepsQueue.trans (State.post_keepsQueue _ _)

theorem State.takeByte_keepsQueue (b : Byte) (s : State) : KeepsQueue s (s.takeByte b) := by
  unfold State.takeByte
  split
  · split
    · exact s.receiveIn_keepsQueue _
    · exact .refl s
  · split
    · exact s.receiveIn_keepsQueue _
    · exact s.huntAgain_keepsQueue
  · exact s.receiveIn_keepsQueue _
  · exact s.receiveIn_keepsQueue _
  · exact s.frameComplete_keepsQueue _ _ _

theorem State.takeFaultyByte_keepsQueue (s : State) : KeepsQueue s s.takeFaultyByte := by
  unfold State.takeFaultyByte
  split
  · exact .refl s
  · exact s.huntAgain_keepsQueue.trans (State.post_keepsQueue _ _)

/-! ## The mode, the service and the settings -/

theorem State.changeMode_keepsQueue (m : Mode) (s : State) : KeepsQueue s (s.changeMode m) := by
  have stored (m : Mode) : KeepsQueue s (s.storeMode m) :=
    .trans (t := { s with port := { s.port with mode := m } }) (.of_queue rfl rfl rfl) (State.post_keepsQueue _ _)
  have cleared (u : State) : KeepsQueue u u.clearOverrides := .of_queue (by simp [State.now]) (by simp) (by simp)
  unfold State.changeMode
  split
  · exact .refl s
  · cases m with
    | maintenance => exact stored _
    | normal => exact (stored _).trans (State.regrading_keepsQueue (cleared _))

/-- Settings stored in their ranges (R150). -/
theorem State.setReporting_keepsQueue {threshold age : Nat} (least : 1 ≤ threshold) (most : threshold ≤ 64)
    (ages : age ≤ 60) (s : State) : KeepsQueue s (s.setReporting threshold age) :=
  State.writeQueue_keepsQueue (fun h =>
    have stored : ({ s.queue with threshold := threshold, ageLimit := age } : ReportQueue).Sound s.now :=
      { h with leastThreshold := least, mostThreshold := most, ageLimit := ages }
    stored.judge s.now) fun _ => rfl

/-- A service opened releases the attention line (R149, R151). -/
theorem State.collect_keepsQueue {most : Nat} (least : 1 ≤ most) (largest : most ≤ 16) (s : State) :
    KeepsQueue s { s with queue := s.queue.collect most } := by
  rcases s.queue.collect_cases most with e | ⟨-, nonempty, e⟩ <;> rw [e]
  · exact .refl s
  · exact State.writeQueue_keepsQueue (·.openService nonempty least largest) fun _ =>
      (ReportQueue.attentionCondition_of_opened (q := s.queue.openService most) rfl _).symm

theorem State.close_keepsQueue (s : State) : KeepsQueue s { s with queue := s.queue.close s.now } :=
  State.writeQueue_keepsQueue (·.close) fun _ => rfl

/-! ## Second events and resets -/

/-- Office time rises, and the line is judged at the time reached (R23, R149). -/
theorem State.secondStep_keepsQueue (s : State) : KeepsQueue s s.secondStep := fun h => by
  have now : s.secondStep.now = min (s.now + 1) 4294967295 := by
    rw [State.now, State.secondStep_time]
    rfl
  have top : s.now ≤ 4294967295 := h.time
  have rises : s.now ≤ s.secondStep.now := by omega
  exact ⟨h.running, now.trans_le (Nat.min_le_right _ _), (h.sound.later rises).judge _, rfl⟩

/-- The queue after a reset, whatever stood before (R166). -/
theorem State.resetBy_queueRunning (cause : ResetCause) (s : State) : (s.resetBy cause).QueueRunning where
  running := rfl
  time := Nat.zero_le _
  sound := ReportQueue.initial_sound cause
  line := rfl

/-- While the reset pin is asserted the attention line is released (R166). -/
theorem State.holdInReset_queueSound (s : State) : s.holdInReset.queueSound :=
  s.holdInReset.queueSound_iff.2 ⟨Nat.zero_le _, { ReportQueue.initial_sound .pin with }, rfl⟩

theorem State.endReply_keepsQueue (s : State) : KeepsQueue s s.endReply := by
  unfold State.endReply
  split
  · split
    · exact fun _ => s.resetBy_queueRunning .request
    · exact .of_queue rfl rfl rfl
  · exact .refl s

end Sys2Proof.Machine

/-!
SUPPORT. Every step keeps the Report Queue within its bounds and the attention line on its condition: the requests, the
events, and the walk through the commands.
-/

namespace Sys2Proof.Machine

open Sys2Proof

/-! ## Requests -/

theorem serveConfigureReference_keepsQueue (body : List Byte) (s : State) :
    KeepsQueue s (serveConfigureReference body s).state := by
  rcases serveConfigureReference_cases body s with e | ⟨r, -, -, -, e⟩ <;> rw [e]
  · exact .refl s
  · exact State.regrading_keepsQueue (s.reconfigure_keepsQueue r _)

theorem serveClearRestore_keepsQueue (body : List Byte) (s : State) :
    KeepsQueue s (serveClearRestore body s).state := by
  rcases serveClearRestore_cases body s with e | ⟨r, e⟩ <;> rw [e]
  · exact .refl s
  · exact s.clearRestoring_keepsQueue r

theorem serveSetOscillatorTrim_keepsQueue (body : List Byte) (s : State) :
    KeepsQueue s (serveSetOscillatorTrim body s).state := by
  rcases serveSetOscillatorTrim_cases body s with e | ⟨x, e⟩ <;> rw [e]
  · exact .refl s
  · exact .of_queue rfl rfl rfl

theorem serveLoadCodePlan_keepsQueue (body : List Byte) (s : State) :
    KeepsQueue s (serveLoadCodePlan body s).state := by
  have stored (p : PlanName) (x : CodePlan) : KeepsQueue s (s.setPlan p x) := by
    cases p <;> exact .of_queue rfl rfl rfl
  rcases serveLoadCodePlan_cases body s with e | ⟨p, -, e⟩ <;> rw [e]
  · exact .refl s
  · exact State.regrading_keepsQueue (stored p _)

theorem serveSetGradeOverride_keepsQueue (body : List Byte) (s : State) :
    KeepsQueue s (serveSetGradeOverride body s).state := by
  rcases serveSetGradeOverride_cases body s with e | ⟨r, g, -, -, e⟩ <;> rw [e]
  · exact .refl s
  · exact State.regrading_keepsQueue (s.setRun_keepsQueue r _)

theorem serveConfigureShelf_keepsQueue (body : List Byte) (s : State) :
    KeepsQueue s (serveConfigureShelf body s).state := by
  rcases serveConfigureShelf_cases body s with e | ⟨h, -, -, -, e⟩ <;> rw [e]
  · exact .refl s
  · exact State.regrading_keepsQueue (s.reconfigureShelf_keepsQueue h _ _)

theorem serveSetSelectionLimits_keepsQueue (body : List Byte) (s : State) :
    KeepsQueue s (serveSetSelectionLimits body s).state := by
  rcases serveSetSelectionLimits_cases body s with e | ⟨_, _, _, -, e⟩ <;> rw [e]
  · exact .refl s
  · exact .of_queue rfl rfl rfl

theorem serveSwitch_keepsQueue (body : List Byte) (s : State) : KeepsQueue s (serveSwitch body s).state := by
  rcases serveSwitch_cases body s with e | ⟨h, -, e⟩ | ⟨h, force, r, -, -, e⟩ <;> rw [e]
  · exact .refl s
  · exact s.setRequest_keepsQueue h _
  · exact s.setRequest_keepsQueue h _

theorem serveLockout_keepsQueue (body : List Byte) (s : State) : KeepsQueue s (serveLockout body s).state := by
  rcases serveLockout_cases body s with e | ⟨h, r, entry, on, -, e⟩ <;> rw [e]
  · exact .refl s
  · exact State.regrading_keepsQueue (s.lockOut_keepsQueue h r _ on)

theorem serveHold_keepsQueue (body : List Byte) (s : State) : KeepsQueue s (serveHold body s).state := by
  rcases serveHold_cases body s with e | ⟨named, on, e⟩ <;> rw [e]
  · exact .refl s
  · exact .of_queue (by simp [State.now]) (by simp) (by simp)

theorem serveSetHighway_keepsQueue (body : List Byte) (s : State) : KeepsQueue s (serveSetHighway body s).state := by
  rcases serveSetHighway_cases body s with e | ⟨mode, enable, e⟩ <;> rw [e]
  · exact .refl s
  · exact .of_queue rfl rfl rfl

theorem serveReadHighway_keepsQueue (body : List Byte) (s : State) :
    KeepsQueue s (serveReadHighway body s).state := by
  rcases serveReadHighway_cases body s with e | e <;> rw [e]
  · exact .refl s
  · exact .of_queue rfl rfl rfl

theorem serveInjectBlock_keepsQueue (body : List Byte) (s : State) :
    KeepsQueue s (serveInjectBlock body s).state := by
  rcases serveInjectBlock_cases body s with e | ⟨n, words, -, e⟩ <;> rw [e]
  · exact .refl s
  · exact State.feedWords_induction n (fun w u kept => kept.trans (u.feedWord_keepsQueue n w)) words s (.refl s)

theorem serveSetReporting_keepsQueue (body : List Byte) (s : State) :
    KeepsQueue s (serveSetReporting body s).state := by
  rcases serveSetReporting_cases body s with e | ⟨threshold, age, e⟩ <;> rw [e]
  · exact .refl s
  · obtain ⟨least, most⟩ := clampNat_mem 1 64 threshold (by decide)
    obtain ⟨-, ages⟩ := clampNat_mem 0 60 age (by decide)
    exact State.setReporting_keepsQueue least most ages s

theorem serveCollect_keepsQueue (body : List Byte) (s : State) : KeepsQueue s (serveCollect body s).state := by
  rcases serveCollect_cases body s with e | ⟨most, e⟩ <;> rw [e]
  · exact .refl s
  · obtain ⟨least, largest⟩ := clampNat_mem 1 16 most (by decide)
    exact State.collect_keepsQueue least largest s

theorem serveEndService_keepsQueue (body : List Byte) (s : State) : KeepsQueue s (serveEndService body s).state := by
  rcases serveEndService_cases body s with e | ⟨-, e⟩ <;> rw [e]
  · exact .refl s
  · exact s.close_keepsQueue

theorem serveSetMode_keepsQueue (body : List Byte) (s : State) : KeepsQueue s (serveSetMode body s).state := by
  rcases serveSetMode_cases body s with e | ⟨m, e⟩ <;> rw [e]
  · exact .refl s
  · exact s.changeMode_keepsQueue m

/-! ## Events, in reset and out of it -/

section
variable {s : State} (sound : s.queueSound)
include sound

/-- An event of a running part keeps the queue, and in reset none takes place (R166). -/
theorem event_queueSound {f : State → State} (kept : KeepsQueue s (f s)) :
    AnswersOnly State.queueSound (event s f) := by
  cases held : s.resetHeld with
  | true => rw [event_of_held s f held]; exact answersOnly_next sound
  | false =>
    rw [event_of_running s f held]
    exact answersOnly_next (kept (State.queueRunning_of_sound held sound)).queueSound

theorem eventIf_queueSound {d : Bool} {f : State → State} (kept : KeepsQueue s (f s)) :
    AnswersOnly State.queueSound (eventIf d s f) := by
  cases held : s.resetHeld with
  | true => rw [eventIf_of_held d s f held]; exact answersOnly_next sound
  | false =>
    exact eventIf_answersOnly sound fun _ => (kept (State.queueRunning_of_sound held sound)).queueSound

/-- A counted event that hands on the grades it changes. -/
theorem eventIf_regrading_queueSound {d : Bool} {f : State → State} (kept : KeepsQueue s (f s)) :
    AnswersOnly State.queueSound (eventIf d s (State.regrading f)) :=
  eventIf_queueSound sound (State.regrading_keepsQueue kept)

/-- A request is taken: its owning block keeps the queue, and the transmit state plays no part. -/
theorem takeRequest_queueSound {named : Nat → Bool} {serve : List Byte → State → Answer}
    (hs : ∀ body, KeepsQueue s (serve body s).state) : AnswersOnly State.queueSound (takeRequest named serve s) := by
  refine event_queueSound sound ?_
  split
  · split
    · exact (hs _).trans (.of_queue rfl rfl rfl)
    · exact .refl s
  · exact .refl s

/-- A request that is answered from the state as it is. -/
theorem takeRequest_of_state_queueSound {named : Nat → Bool} {serve : List Byte → State → Answer}
    (hs : ∀ body, (serve body s).state = s) : AnswersOnly State.queueSound (takeRequest named serve s) :=
  takeRequest_queueSound sound fun body => (hs body).symm ▸ .refl s

theorem execByteReceived_queueSound (value : Byte) (stopHigh : Bool) :
    AnswersOnly State.queueSound (execByteReceived value stopHigh s) := by
  refine event_queueSound sound ?_
  split
  · exact s.takeByte_keepsQueue value
  · exact s.takeFaultyByte_keepsQueue

theorem execEdge_queueSound (r : Nat) : AnswersOnly State.queueSound (execEdge r s) := by
  refine onRef_answersOnly fun r => eventIf_queueSound sound ?_
  have sampled : KeepsQueue s (s.samplePin r) := s.setChan_keepsQueue r _
  split
  · exact sampled
  · exact sampled.trans (State.regrading_keepsQueue (State.takeEdge_keepsQueue r _))

theorem execQhFrameStart_queueSound (pulse : Bool) : AnswersOnly State.queueSound (execQhFrameStart pulse s) := by
  refine event_queueSound sound ?_
  split
  · split
    · exact s.startFrame_keepsQueue pulse _
    · exact .refl s
  · exact .refl s

theorem execQhSync_queueSound : AnswersOnly State.queueSound (execQhSync s) := by
  refine event_queueSound sound ?_
  split
  · split
    · exact .refl s
    · exact s.writeQh_keepsQueue _ _
  · exact .refl s

theorem execQhRecovered_queueSound : AnswersOnly State.queueSound (execQhRecovered s) := by
  refine event_queueSound sound ?_
  split
  · exact .refl s
  · exact s.writeQh_keepsQueue _ _

theorem execWordReceived_queueSound (slot : Nat) (bits : Byte) :
    AnswersOnly State.queueSound (execWordReceived slot bits s) := by
  refine onSlot_answersOnly fun n => event_queueSound sound ?_
  split
  · rename_i f _
    have passed : KeepsQueue s (s.passWord n f) := .of_queue rfl rfl rfl
    split
    · exact passed.trans (State.feedWord_keepsQueue n _ _)
    · exact .refl s
  · exact .refl s

theorem execRefusalMarkRunOut_queueSound (h r : Nat) :
    AnswersOnly State.queueSound (execRefusalMarkRunOut h r s) :=
  onShelf_answersOnly fun _ => onRef_answersOnly fun _ => eventIf_queueSound sound (.of_queue rfl rfl rfl)

theorem execPassVisit_queueSound : AnswersOnly State.queueSound (execPassVisit s) := by
  have advanced : KeepsQueue s { s with engine := s.engine.advance } := .of_queue rfl rfl rfl
  refine event_queueSound sound ?_
  split
  · exact advanced.trans (State.regrading_keepsQueue (State.visit_keepsQueue _ _))
  · exact .refl s

theorem execCommandBlockStart_queueSound (slot : Nat) :
    AnswersOnly State.queueSound (execCommandBlockStart slot s) := by
  unfold execCommandBlockStart
  split
  · exact eventIf_queueSound sound (.of_queue rfl rfl rfl)
  · exact answersOnly_fault _ _

theorem execQualityBlockStart_queueSound (slot : Nat) :
    AnswersOnly State.queueSound (execQualityBlockStart slot s) := by
  have started (j : Fin 16) : KeepsQueue s (s.startQuality j) := by
    unfold State.startQuality
    split
    · exact .of_queue rfl rfl rfl
    · exact .of_queue rfl rfl rfl
  unfold execQualityBlockStart
  split
  · exact eventIf_queueSound sound (started _)
  · exact answersOnly_fault _ _

/-! ## The step -/

/-- Every command keeps the Report Queue within its bounds and the attention line on its condition. -/
theorem exec_queueSound (c : Instr) : AnswersOnly State.queueSound (exec c s) := by
  cases c with
  | configureReference =>
    exact takeRequest_queueSound (named := (· == 1)) sound (serveConfigureReference_keepsQueue · s)
  | readReference => exact takeRequest_of_state_queueSound (named := (· == 2)) sound (serveReadReference_state · s)
  | clearRestore => exact takeRequest_queueSound (named := (· == 3)) sound (serveClearRestore_keepsQueue · s)
  | setOscillatorTrim =>
    exact takeRequest_queueSound (named := (· == 4)) sound (serveSetOscillatorTrim_keepsQueue · s)
  | loadCodePlan => exact takeRequest_queueSound (named := (· == 5)) sound (serveLoadCodePlan_keepsQueue · s)
  | readCodePlan => exact takeRequest_of_state_queueSound (named := (· == 6)) sound (serveReadCodePlan_state · s)
  | setGradeOverride => exact takeRequest_queueSound (named := (· == 7)) sound (serveSetGradeOverride_keepsQueue · s)
  | configureShelf => exact takeRequest_queueSound (named := (· == 8)) sound (serveConfigureShelf_keepsQueue · s)
  | readShelf => exact takeRequest_of_state_queueSound (named := (· == 9)) sound (serveReadShelf_state · s)
  | setSelectionLimits =>
    exact takeRequest_queueSound (named := (· == 10)) sound (serveSetSelectionLimits_keepsQueue · s)
  | switch => exact takeRequest_queueSound (named := (· == 11)) sound (serveSwitch_keepsQueue · s)
  | lockout => exact takeRequest_queueSound (named := (· == 12)) sound (serveLockout_keepsQueue · s)
  | hold => exact takeRequest_queueSound (named := (· == 13)) sound (serveHold_keepsQueue · s)
  | setHighway => exact takeRequest_queueSound (named := (· == 14)) sound (serveSetHighway_keepsQueue · s)
  | readHighway => exact takeRequest_queueSound (named := (· == 15)) sound (serveReadHighway_keepsQueue · s)
  | injectBlock => exact takeRequest_queueSound (named := (· == 16)) sound (serveInjectBlock_keepsQueue · s)
  | setReporting => exact takeRequest_queueSound (named := (· == 17)) sound (serveSetReporting_keepsQueue · s)
  | collect => exact takeRequest_queueSound (named := (· == 18)) sound (serveCollect_keepsQueue · s)
  | endService => exact takeRequest_queueSound (named := (· == 19)) sound (serveEndService_keepsQueue · s)
  | setMode => exact takeRequest_queueSound (named := (· == 20)) sound (serveSetMode_keepsQueue · s)
  | readStatus => exact takeRequest_of_state_queueSound (named := (· == 21)) sound (serveReadStatus_state · s)
  | reset => exact takeRequest_of_state_queueSound (named := (· == 22)) sound (serveReset_state · s)
  | unknownRequestType =>
    exact takeRequest_of_state_queueSound (named := fun n => !knownType n) (serve := serveUnknownType) sound
      fun _ => refuse_state s .badType []
  | replyEnd => exact eventIf_queueSound sound s.endReply_keepsQueue
  | resetPin => exact answersOnly_next (s.resetBy_queueRunning .pin).queueSound
  | byteReceived value stopHigh => exact execByteReceived_queueSound sound value stopHigh
  | byteWatchExpiry => exact eventIf_queueSound sound s.huntAgain_keepsQueue
  | tickEvent => exact eventIf_queueSound (f := fun s => { s with time := s.time.tick }) sound (.of_queue rfl rfl rfl)
  | secondEvent => exact eventIf_queueSound sound s.secondStep_keepsQueue
  | edge r => exact execEdge_queueSound sound r
  | signalLost r => exact onRef_answersOnly fun r => eventIf_queueSound sound (s.loseSignal_keepsQueue r)
  | failTimerExpiry r =>
    exact onRef_answersOnly fun r => eventIf_regrading_queueSound sound (s.enterFailed_keepsQueue r _)
  | restoreTimerExpiry r =>
    exact onRef_answersOnly fun r => eventIf_queueSound sound (s.becomeAvailable_keepsQueue r _)
  | qhFrameStart pulse => exact execQhFrameStart_queueSound sound pulse
  | frameWatchRunOut => exact eventIf_queueSound sound (s.countMiss_keepsQueue _)
  | qhSync => exact execQhSync_queueSound sound
  | qhRecovered => exact execQhRecovered_queueSound sound
  | wordReceived slot bits => exact execWordReceived_queueSound sound slot bits
  | messageAgeExpiry r =>
    exact onRef_answersOnly fun r => eventIf_regrading_queueSound sound (s.goStale_keepsQueue r)
  | cardSilenceExpiry h =>
    exact onShelf_answersOnly fun h => eventIf_regrading_queueSound sound (s.goSilent_keepsQueue h)
  | acquireExpiry h => exact onShelf_answersOnly fun h => eventIf_regrading_queueSound sound (s.timeOut_keepsQueue h)
  | holdoverAging h =>
    exact onShelf_answersOnly fun h => eventIf_regrading_queueSound sound (s.ageHoldover_keepsQueue h)
  | refusalMarkRunOut h r => exact execRefusalMarkRunOut_queueSound sound h r
  | passStart =>
    exact eventIf_queueSound (f := fun s => { s with engine := s.engine.startPass s.visitOrder }) sound
      (.of_queue rfl rfl rfl)
  | passVisit => exact execPassVisit_queueSound sound
  | passEnd => exact eventIf_queueSound sound s.endPass_keepsQueue
  | dhFrameStart =>
    exact eventIf_queueSound (f := fun s => { s with dh := s.dh.startFrame }) sound (.of_queue rfl rfl rfl)
  | commandBlockStart slot => exact execCommandBlockStart_queueSound sound slot
  | qualityBlockStart slot => exact execQualityBlockStart_queueSound sound slot
  | resetPinAsserted => exact answersOnly_next s.holdInReset_queueSound

theorem State.idle_queueSound : s.idle.queueSound := by
  have now : s.idle.now = s.now := by
    rcases s.idle_cases with e | e | e <;> rw [e]
    · rw [State.now, State.closeWatches_time]; rfl
    · rfl
  exact State.queueSound_congr now s.idle_resetHeld s.idle_queue sound

end

/-- Settles O53, command by command; on an empty queue no part of the invariant is written. -/
theorem everyStepKeepsTheReportQueue : Obligations.EveryStepKeepsTheReportQueue := by
  intro s t taken sound
  unfold step at taken
  split at taken
  · rename_i c rest _
    have dequeued : ({ s with pending := rest } : State).queueSound := State.queueSound_congr rfl rfl rfl sound
    exact exec_queueSound dequeued c t taken
  · cases taken
    exact State.idle_queueSound sound

end Sys2Proof.Machine

/-!
SUPPORT. The receiver of the Message Port: what a byte makes of the frame in assembly, and what becomes of a frame that
is complete.
-/

namespace Sys2Proof.Machine

open Sys2Proof

/-! ## Bytes, by the receive state -/

theorem execByteReceived_of_running {s : State} (running : s.resetHeld = false) (b : Byte) :
    exec (.byteReceived b true) s = .next (s.takeByte b) := by
  rw [exec, execByteReceived, event_of_running s _ running, if_pos rfl]

theorem execByteReceived_of_faulty {s : State} (running : s.resetHeld = false) (b : Byte) :
    exec (.byteReceived b false) s = .next s.takeFaultyByte := by
  rw [exec, execByteReceived, event_of_running s _ running, if_neg Bool.false_ne_true]

section
variable {s : State} {a : Assembly} {b first : Byte}

theorem State.takeByte_of_delimiter (hunting : s.port.receive = .hunt) : s.takeByte 0xA5 = s.receiveIn .length := by
  simp only [State.takeByte, hunting, if_true]

theorem State.takeByte_of_passedOver (hunting : s.port.receive = .hunt) (other : b ≠ 0xA5) : s.takeByte b = s := by
  simp only [State.takeByte, hunting, other, if_false]

theorem State.takeByte_of_length (awaiting : s.port.receive = .length) (least : 2 ≤ b.toNat)
    (most : b.toNat ≤ 250) : s.takeByte b = s.receiveIn (.body (.start b)) := by
  simp only [State.takeByte, awaiting, least, most, and_self, if_true]

theorem State.takeByte_of_wrongLength (awaiting : s.port.receive = .length) (outside : b.toNat < 2 ∨ 250 < b.toNat) :
    s.takeByte b = s.huntAgain := by
  simp only [State.takeByte, awaiting]
  exact if_neg (by omega)

theorem State.takeByte_of_body (filling : s.port.receive = .body a) (more : a.bytes.length + 1 < a.length) :
    s.takeByte b = s.receiveIn (.body (a.add b)) := by
  simp only [State.takeByte, filling, Nat.not_le.2 more, if_false]

theorem State.takeByte_of_lastByte (filling : s.port.receive = .body a) (last : a.length ≤ a.bytes.length + 1) :
    s.takeByte b = s.receiveIn (.check1 (a.add b)) := by
  simp only [State.takeByte, filling, last, if_true]

theorem State.takeByte_of_check1 (checking : s.port.receive = .check1 a) :
    s.takeByte b = s.receiveIn (.check2 a b) := by
  simp only [State.takeByte, checking]

theorem State.takeByte_of_check2 (checking : s.port.receive = .check2 a first) :
    s.takeByte b = s.frameComplete a first b := by
  simp only [State.takeByte, checking]

theorem State.takeFaultyByte_of_hunt (hunting : s.port.receive = .hunt) : s.takeFaultyByte = s := if_pos hunting

theorem State.takeFaultyByte_of_frame (receiving : s.port.receive ≠ .hunt) :
    s.takeFaultyByte = s.huntAgain.post .portFrameError := if_neg receiving

end

/-- The sums of a frame start from its length byte (R156, R158). -/
theorem Assembly.start_eq (b : Byte) :
    Assembly.start b = ⟨b.toNat, [], b.toNat % 255, b.toNat % 255⟩ := by
  simp only [Assembly.start, addCheck, Nat.zero_add, Nat.mod_mod]

/-! ## The byte watch -/

theorem State.byteWatchDue_iff (s : State) :
    s.byteWatchDue = true ↔ s.port.receive ≠ .hunt ∧ 400000 ≤ s.port.byteWatch := by
  rw [State.byteWatchDue, Bool.and_eq_true, decide_eq_true_iff, decide_eq_true_iff]
  rfl

theorem execByteWatchExpiry_of_due {s : State} (running : s.resetHeld = false) (due : s.byteWatchDue = true) :
    exec .byteWatchExpiry s = .next s.huntAgain := by
  rw [exec, execByteWatchExpiry, eventIf_of_due _ s _ running due]

theorem execByteWatchExpiry_of_not_due {s : State} (early : ¬ s.byteWatchDue = true) :
    exec .byteWatchExpiry s = .next s := by
  rw [exec, execByteWatchExpiry, eventIf_of_not_due _ s _ (Bool.eq_false_iff.2 early)]

/-- Settles O31, by the receive state that a byte or the byte watch finds. -/
theorem bytesAssembleAFrame : Obligations.BytesAssembleAFrame := by
  intro s b running
  simp only [execByteReceived_of_running running, execByteReceived_of_faulty running]
  refine ⟨fun hunting other => ?passedOver, fun hunting => ?faultyInHunt, fun hunting => ?delimiter,
    fun awaiting least most => ?length, fun awaiting outside => ?wrongLength, fun a filling more => ?body,
    fun a filling last => ?lastByte, fun a checking => ?check1, fun receiving => ?faulty,
    fun receiving late => ?abandoned, fun early => ?early⟩
  case passedOver => rw [State.takeByte_of_passedOver hunting other]
  case faultyInHunt => rw [State.takeFaultyByte_of_hunt hunting]
  case delimiter => rw [State.takeByte_of_delimiter hunting, State.receiveIn]
  case length => rw [State.takeByte_of_length awaiting least most, State.receiveIn, Assembly.start_eq]
  case wrongLength => rw [State.takeByte_of_wrongLength awaiting outside, State.huntAgain]
  case body => rw [State.takeByte_of_body filling more, State.receiveIn, Assembly.add, addCheck]
  case lastByte => rw [State.takeByte_of_lastByte filling last, State.receiveIn, Assembly.add, addCheck]
  case check1 => rw [State.takeByte_of_check1 checking, State.receiveIn]
  case faulty => rw [State.takeFaultyByte_of_frame receiving, State.huntAgain]
  case abandoned =>
    rw [execByteWatchExpiry_of_due running (s.byteWatchDue_iff.2 ⟨receiving, late⟩), State.huntAgain]
  case early =>
    refine execByteWatchExpiry_of_not_due fun due => ?_
    obtain ⟨receiving, late⟩ := s.byteWatchDue_iff.1 due
    exact early.elim receiving fun below => Nat.not_le.2 below late

/-! ## A complete frame -/

theorem Assembly.frame_of_bytes {a : Assembly} {type tag : Byte} {body : List Byte}
    (bytes : a.bytes = type :: tag :: body) : a.frame = ⟨type, tag, body⟩ := by
  simp only [Assembly.frame, bytes]
  rfl

theorem State.bufferFrame_of_room {s : State} (room : s.port.buffer.length < 2) (f : Frame) :
    s.bufferFrame f = { s with port := { s.port with buffer := s.port.buffer ++ [f] } } := if_pos room

theorem State.bufferFrame_of_full {s : State} (full : 2 ≤ s.port.buffer.length) (f : Frame) :
    s.bufferFrame f = s.post .portOverrun := if_neg (Nat.not_lt.2 full)

/-- Settles O32, by the check bytes and the room in the buffer. -/
theorem completeFramesAreCheckedAndBuffered : Obligations.CompleteFramesAreCheckedAndBuffered := by
  rintro s _ a type tag first second body running checking bytes rfl
  rw [execByteReceived_of_running running, State.takeByte_of_check2 checking, State.frameComplete,
    Assembly.frame_of_bytes bytes]
  refine ⟨fun sum1 sum2 room => ?_, fun sum1 sum2 full => ?_, fun differ => ?_⟩
  · rw [if_pos ⟨sum1, sum2⟩, State.bufferFrame_of_room (s := s.huntAgain) room, State.huntAgain]
  · rw [if_pos ⟨sum1, sum2⟩, State.bufferFrame_of_full (s := s.huntAgain) full, State.huntAgain]
  · rw [if_neg (by omega), State.huntAgain]

end Sys2Proof.Machine

/-!
SUPPORT. The reset pin, the end of a reply, and what commands do while the part is held in reset.
-/

namespace Sys2Proof.Machine

open Sys2Proof

/-! ## The end of a reply -/

theorem State.replyEndDue_of_idle {s : State} (idle : s.port.transmit = none) : s.replyEndDue = false := by
  rw [State.replyEndDue, idle]

theorem State.replyEndDue_of_sending {s : State} {r : Sending} (sending : s.port.transmit = some r) :
    s.replyEndDue = r.bytes.isEmpty := by
  rw [State.replyEndDue, sending]

theorem execReplyEnd_of_not_due {s : State} (early : s.replyEndDue = false) : exec .replyEnd s = .next s := by
  rw [exec, execReplyEnd, eventIf_of_not_due _ s _ early]

/-- A reply ends once its last byte is out (R160). -/
theorem execReplyEnd_of_sent {s : State} {r : Sending} (running : s.resetHeld = false)
    (sending : s.port.transmit = some r) (out : r.bytes = []) : exec .replyEnd s = .next s.endReply := by
  have due : s.replyEndDue = true := by rw [State.replyEndDue_of_sending sending, out, List.isEmpty_nil]
  rw [exec, execReplyEnd, eventIf_of_due _ s _ running due]

/-! ## In reset -/

/-- While the pin is asserted no event takes place, whatever the command but the pin's own (R166). -/
theorem exec_of_held {s : State} {c : Instr} (held : s.resetHeld = true) (named : c.wellFormed = true)
    (notRelease : c ≠ .resetPin) (notAssertion : c ≠ .resetPinAsserted) : exec c s = .next s := by
  cases c with
  | resetPin => exact absurd rfl notRelease
  | resetPinAsserted => exact absurd rfl notAssertion
  | configureReference | readReference | clearRestore | setOscillatorTrim | loadCodePlan | readCodePlan
  | setGradeOverride | configureShelf | readShelf | setSelectionLimits | switch | lockout | hold | setHighway
  | readHighway | injectBlock | setReporting | collect | endService | setMode | readStatus | reset
  | unknownRequestType | byteReceived | qhFrameStart | qhSync | qhRecovered | passVisit =>
    apply event_of_held s _ held
  | replyEnd | byteWatchExpiry | tickEvent | secondEvent | frameWatchRunOut | passStart | passEnd | dhFrameStart =>
    apply eventIf_of_held _ s _ held
  | edge r | signalLost r | failTimerExpiry r | restoreTimerExpiry r | messageAgeExpiry r =>
    have ref : r < 40 := of_decide_eq_true named
    simp only [exec, execEdge, execSignalLost, execFailTimerExpiry, execRestoreTimerExpiry, execMessageAgeExpiry,
      onRef_of_lt r ref, eventIf_of_held _ s _ held]
  | cardSilenceExpiry h | acquireExpiry h | holdoverAging h =>
    have shelf : h < 32 := of_decide_eq_true named
    simp only [exec, execCardSilenceExpiry, execAcquireExpiry, execHoldoverAging, onShelf_of_lt h shelf,
      eventIf_of_held _ s _ held]
  | refusalMarkRunOut h r =>
    obtain ⟨shelf, ref⟩ := Bool.and_eq_true_iff.1 named
    rw [exec, execRefusalMarkRunOut, onShelf_of_lt h (of_decide_eq_true shelf),
      onRef_of_lt r (of_decide_eq_true ref), eventIf_of_held _ s _ held]
  | wordReceived slot _ =>
    rw [exec, execWordReceived, onSlot_of_lt slot (of_decide_eq_true named), event_of_held s _ held]
  | commandBlockStart slot =>
    rw [exec, execCommandBlockStart, dif_pos (of_decide_eq_true named), eventIf_of_held _ s _ held]
  | qualityBlockStart slot =>
    obtain ⟨least, most⟩ := Bool.and_eq_true_iff.1 named
    rw [exec, execQualityBlockStart, dif_pos ⟨of_decide_eq_true least, of_decide_eq_true most⟩,
      eventIf_of_held _ s _ held]

/-- Settles O6: the pin's two commands by the reset values, the end of a reply by whether its last byte is out and what
its end does. -/
theorem resetsAndTheEndOfAReply : Obligations.ResetsAndTheEndOfAReply := by
  refine ⟨fun s => ⟨rfl, rfl, fun _ idle => ?idle, fun r _ sending going => ?going,
    fun r running sending out plain => ?plain, fun r running sending out resets => ?resets⟩,
    fun c s held named notRelease notAssertion => exec_of_held held named notRelease notAssertion⟩
  case idle => exact execReplyEnd_of_not_due (State.replyEndDue_of_idle idle)
  case going =>
    refine execReplyEnd_of_not_due ?_
    rw [State.replyEndDue_of_sending sending, List.isEmpty_eq_false_iff]
    exact going
  case plain =>
    rw [execReplyEnd_of_sent running sending out, s.endReply_of_reply r sending plain, List.drop_one]
  case resets =>
    rw [execReplyEnd_of_sent running sending out, s.endReply_of_reset r sending resets]
    rfl

end Sys2Proof.Machine

/-!
SUPPORT. Replies as they go out: the layout of the frame, its two check bytes, and the level of each bit.
-/

namespace Sys2Proof.Machine

open Sys2Proof

/-! ## The layout of a reply -/

theorem putFlag_eq (b : Bool) : putFlag b = [if b then 1 else 0] := by cases b <;> rfl

/-- The length, the type with 128 added, the tag, the status and the flags, then the results (R161). -/
theorem replyCore_eq (f : Frame) (a : Answer) :
    replyCore f a = [BitVec.ofNat 8 (a.results.length + 4), f.type + 128, f.tag, BitVec.ofNat 8 a.status.code,
      if a.clamped then 1 else 0] ++ a.results := by
  have length : a.body.length + 2 = a.results.length + 4 := by
    simp only [Answer.body, List.length_append, length_put8, putFlag]
    omega
  have type : BitVec.ofNat 8 (f.type.toNat + 128) = f.type + 128 := by
    rw [BitVec.ofNat_add, BitVec.ofNat_toNat, BitVec.setWidth_eq]
    rfl
  rw [replyCore, length, put8, put8, type, Answer.body, putFlag_eq, put8]
  rfl

theorem replyFrame_eq (f : Frame) (a : Answer) :
    replyFrame f a = 0xA5 :: (replyCore f a ++ checkBytes (replyCore f a)) := rfl

/-! ## The check bytes -/

/-- The two sums over bytes taken in order (R158). -/
def checkSums (bytes : List Byte) : Nat × Nat := bytes.foldl addCheck (0, 0)

theorem checkBytes_eq (bytes : List Byte) :
    checkBytes bytes = [BitVec.ofNat 8 (checkSums bytes).1, BitVec.ofNat 8 (checkSums bytes).2] := rfl

theorem checkSums_append (bytes : List Byte) (b : Byte) :
    checkSums (bytes ++ [b]) = addCheck (checkSums bytes) b := List.foldl_concat ..

/-- The sums are taken modulo 255 (R158). -/
theorem checkSums_lt (bytes : List Byte) : (checkSums bytes).1 < 255 ∧ (checkSums bytes).2 < 255 := by
  induction bytes using List.reverseRecOn with
  | nil => decide
  | append_singleton rest b _ =>
    rw [checkSums_append]
    exact ⟨Nat.mod_lt _ (by decide), Nat.mod_lt _ (by decide)⟩

/-- A byte tells apart the numbers that a sum can be. -/
theorem eq_of_ofNat_eq {m n : Nat} (hm : m < 255) (hn : n < 255) (same : BitVec.ofNat 8 m = BitVec.ofNat 8 n) :
    m = n := by
  have values := congrArg BitVec.toNat same
  simp only [BitVec.toNat_ofNat] at values
  omega

/-- The check bytes give back the sums they are made of. -/
theorem checkSums_of_checkBytes {bytes : List Byte} {c1 c2 : Nat} (first : c1 < 255) (second : c2 < 255)
    (check : checkBytes bytes = [BitVec.ofNat 8 c1, BitVec.ofNat 8 c2]) : checkSums bytes = (c1, c2) := by
  obtain ⟨first', second'⟩ := checkSums_lt bytes
  rw [checkBytes_eq] at check
  injection check with same rest
  injection rest with same' _
  exact Prod.ext (eq_of_ofNat_eq first' first same) (eq_of_ofNat_eq second' second same')

/-! ## The line -/

/-- The bit time reached counts the whole tenths of a byte's time spent (R155). -/
theorem Sending.le_bitTime_iff (x : Sending) (n : Nat) : n ≤ x.bitTime ↔ 15625 * n ≤ 10 * x.elapsed := by
  rw [Sending.bitTime, Nat.le_div_iff_mul_le (by decide), Config.byteTime, Config.bitsPerByte, Nat.mul_comm n,
    Nat.mul_comm x.elapsed]

theorem Sending.bitTime_eq_of_mem {x : Sending} {n : Nat} (least : 15625 * n ≤ 10 * x.elapsed)
    (most : 10 * x.elapsed < 15625 * (n + 1)) : x.bitTime = n :=
  Nat.eq_of_le_of_lt_succ ((x.le_bitTime_iff n).2 least)
    (Nat.lt_of_not_le fun later => Nat.not_le.2 most ((x.le_bitTime_iff (n + 1)).1 later))

theorem serialLevel_of_stop {n : Nat} (stop : 9 ≤ n) (b : Byte) : serialLevel b n = true := by
  rw [serialLevel, if_neg (by omega), if_neg (by omega)]

/-- Settles O34: the layout of the frame, the sums byte by byte, and the line by the bit time reached. -/
theorem repliesAreFramed : Obligations.RepliesAreFramed := by
  refine ⟨fun s f status clamped results => ?layout,
    ⟨rfl, fun bytes b c1 c2 first second check => ?sums, by decide⟩, fun p b rest elapsed reset sending => ?bits,
    fun p quiet => ?quiet⟩
  case layout =>
    refine ⟨replyTo f ⟨s, status, clamped, results⟩, rfl, rfl, rfl, rfl, ?_⟩
    rw [replyTo, replyFrame_eq, replyCore_eq]
    rfl
  case sums =>
    rw [checkBytes_eq, checkSums_append, checkSums_of_checkBytes first second check, addCheck]
  case bits =>
    rw [p.transmitLine_of_sending _ b rest sending rfl]
    refine ⟨fun early => ?_, fun i least most => ?_, fun stop => ?_⟩
    · rw [Sending.bitTime_eq_of_mem (n := 0) (Nat.zero_le _) early, serialLevel_start]
    · rw [Sending.bitTime_eq_of_mem least most, serialLevel_data]
    · exact serialLevel_of_stop ((Sending.le_bitTime_iff _ 9).2 stop) b
  case quiet =>
    rcases quiet with idle | ⟨x, sending, out⟩
    · exact p.transmitLine_of_idle idle
    · exact p.transmitLine_of_sent x sending out

end Sys2Proof.Machine

/-!
SUPPORT. The taking of requests: which frame is taken, and what each request of the catalogue leaves of the Message
Port.
-/

namespace Sys2Proof.Machine

open Sys2Proof

/-! ## Which frame is taken -/

theorem State.waiting_iff (s : State) (f : Frame) :
    s.waiting = some f ↔ s.port.transmit = none ∧ s.port.buffer.head? = some f := by
  unfold State.waiting
  cases s.port.transmit with
  | none => simp
  | some r => simp

section
variable {named : Nat → Bool} {serve : List Byte → State → Answer} {s : State}

theorem takeRequest_of_sending (sending : s.port.transmit ≠ none) : takeRequest named serve s = .next s :=
  takeRequest_of_none named serve s
    (Option.eq_none_iff_forall_ne_some.2 fun f taken => sending ((s.waiting_iff f).1 taken).1)

theorem takeRequest_of_empty (empty : s.port.buffer = []) : takeRequest named serve s = .next s := by
  refine takeRequest_of_none named serve s (Option.eq_none_iff_forall_ne_some.2 fun f taken => ?_)
  have front := ((s.waiting_iff f).1 taken).2
  simp [empty] at front

/-- The oldest frame is of a type that the command does not name (log 2). -/
theorem takeRequest_of_otherType {f : Frame} (front : s.port.buffer.head? = some f)
    (other : named f.type.toNat = false) : takeRequest named serve s = .next s := by
  rcases takeRequest_cases named serve s with unchanged | ⟨g, taken, names, -⟩
  · exact unchanged
  · obtain rfl := Option.some.inj (front.symm.trans ((s.waiting_iff g).1 taken).2)
    rw [other] at names
    cases names

end

/-! ## What the owning blocks leave of the Message Port -/

theorem serveConfigureReference_port (body : List Byte) (s : State) :
    (serveConfigureReference body s).state.port = s.port := by
  rcases serveConfigureReference_cases body s with e | ⟨r, -, -, -, e⟩ <;> rw [e]
  exact (State.handOnGrades_shelfMove s _).port.trans (State.reconfigure_port r _ s)

theorem serveSetOscillatorTrim_port (body : List Byte) (s : State) :
    (serveSetOscillatorTrim body s).state.port = s.port := by
  rcases serveSetOscillatorTrim_cases body s with e | ⟨x, e⟩ <;> rw [e]

theorem serveSetHighway_port (body : List Byte) (s : State) : (serveSetHighway body s).state.port = s.port := by
  rcases serveSetHighway_cases body s with e | ⟨mode, enable, e⟩ <;> rw [e]
  exact State.setHighway_port mode enable s

theorem serveReadHighway_port (body : List Byte) (s : State) : (serveReadHighway body s).state.port = s.port := by
  rcases serveReadHighway_cases body s with e | e <;> rw [e]
  exact s.clearCounters_port

theorem serveInjectBlock_port (body : List Byte) (s : State) : (serveInjectBlock body s).state.port = s.port := by
  rcases serveInjectBlock_cases body s with e | ⟨n, words, -, e⟩ <;> rw [e]
  exact (s.feedWords_keepsFraming n words).port

theorem State.changeMode_port (m : Mode) (s : State) : (s.changeMode m).port = { s.port with mode := m } := by
  unfold State.changeMode
  split
  · rename_i same
    rw [← same]
  · cases m with
    | maintenance => rw [State.storeMode, State.post_port]
    | normal =>
      rw [(State.regrading_keepsHardware (State.clearOverrides_keepsHardware _)).port, State.storeMode,
        State.post_port]

theorem serveSetMode_port (body : List Byte) (s : State) :
    (serveSetMode body s).state.port = { s.port with mode := (serveSetMode body s).state.port.mode } := by
  rcases serveSetMode_cases body s with e | ⟨m, e⟩ <;> rw [e]
  rw [State.changeMode_port]

/-! ## The requests and their types -/

/-- A command takes the requests of a type, and the owning block's answer writes nothing of the Message Port but the
mode, and the mode in SET MODE alone (R160, R163, R167). -/
structure TakenBy (type : Nat) (c : Instr) (serve : List Byte → State → Answer) : Prop where
  takes : ∀ s, exec c s = takeRequest (· == type) serve s
  port : ∀ body s, (serve body s).state.port = { s.port with mode := (serve body s).state.port.mode }
  mode : c ≠ .setMode → ∀ body s, (serve body s).state.port.mode = s.port.mode

theorem TakenBy.of_port {type : Nat} {c : Instr} {serve : List Byte → State → Answer}
    (takes : ∀ s, exec c s = takeRequest (· == type) serve s)
    (port : ∀ body s, (serve body s).state.port = s.port) : TakenBy type c serve where
  takes := takes
  port body s := by rw [port]
  mode _ body s := by rw [port]

theorem TakenBy.of_hardware {type : Nat} {c : Instr} {serve : List Byte → State → Answer}
    (takes : ∀ s, exec c s = takeRequest (· == type) serve s)
    (kept : ∀ body s, KeepsHardware s (serve body s).state) : TakenBy type c serve :=
  .of_port takes fun body s => (kept body s).port

theorem TakenBy.of_state {type : Nat} {c : Instr} {serve : List Byte → State → Answer}
    (takes : ∀ s, exec c s = takeRequest (· == type) serve s)
    (kept : ∀ body s, (serve body s).state = s) : TakenBy type c serve :=
  .of_port takes fun body s => congrArg State.port (kept body s)

/-- The requests of the catalogue by their types (R167). -/
def requestTypes : List (Nat × Instr) :=
  [(1, .configureReference), (2, .readReference), (3, .clearRestore), (4, .setOscillatorTrim), (5, .loadCodePlan),
    (6, .readCodePlan), (7, .setGradeOverride), (8, .configureShelf), (9, .readShelf), (10, .setSelectionLimits),
    (11, .switch), (12, .lockout), (13, .hold), (14, .setHighway), (15, .readHighway), (16, .injectBlock),
    (17, .setReporting), (18, .collect), (19, .endService), (20, .setMode), (21, .readStatus), (22, .reset)]

theorem exists_takenBy {row : Nat × Instr} (listed : row ∈ requestTypes) : ∃ serve, TakenBy row.1 row.2 serve := by
  revert row
  simp only [requestTypes, List.forall_mem_cons, List.not_mem_nil, false_imp_iff, implies_true, and_true]
  exact ⟨⟨_, .of_port (fun _ => rfl) serveConfigureReference_port⟩,
    ⟨_, .of_state (fun _ => rfl) serveReadReference_state⟩,
    ⟨_, .of_hardware (fun _ => rfl) serveClearRestore_keepsHardware⟩,
    ⟨_, .of_port (fun _ => rfl) serveSetOscillatorTrim_port⟩,
    ⟨_, .of_hardware (fun _ => rfl) serveLoadCodePlan_keepsHardware⟩,
    ⟨_, .of_state (fun _ => rfl) serveReadCodePlan_state⟩,
    ⟨_, .of_hardware (fun _ => rfl) serveSetGradeOverride_keepsHardware⟩,
    ⟨_, .of_hardware (fun _ => rfl) serveConfigureShelf_keepsHardware⟩,
    ⟨_, .of_state (fun _ => rfl) serveReadShelf_state⟩,
    ⟨_, .of_hardware (fun _ => rfl) serveSetSelectionLimits_keepsHardware⟩,
    ⟨_, .of_hardware (fun _ => rfl) serveSwitch_keepsHardware⟩,
    ⟨_, .of_hardware (fun _ => rfl) serveLockout_keepsHardware⟩,
    ⟨_, .of_hardware (fun _ => rfl) serveHold_keepsHardware⟩,
    ⟨_, .of_port (fun _ => rfl) serveSetHighway_port⟩,
    ⟨_, .of_port (fun _ => rfl) serveReadHighway_port⟩,
    ⟨_, .of_port (fun _ => rfl) serveInjectBlock_port⟩,
    ⟨_, .of_hardware (fun _ => rfl) serveSetReporting_keepsHardware⟩,
    ⟨_, .of_hardware (fun _ => rfl) serveCollect_keepsHardware⟩,
    ⟨_, .of_hardware (fun _ => rfl) serveEndService_keepsHardware⟩,
    ⟨_, ⟨fun _ => rfl, serveSetMode_port, fun other => absurd rfl other⟩⟩,
    ⟨_, .of_state (fun _ => rfl) serveReadStatus_state⟩,
    ⟨_, .of_state (fun _ => rfl) serveReset_state⟩⟩

/-- Settles O33: each request is taken from the front of the buffer while the port is IDLE, and else nothing changes. -/
theorem requestsAreTakenOneAtATime : Obligations.RequestsAreTakenOneAtATime := by
  intro s type c listed
  obtain ⟨serve, takes, port, mode⟩ := exists_takenBy (row := (type, c)) listed
  rw [takes]
  refine ⟨fun blocked => blocked.elim takeRequest_of_sending takeRequest_of_empty, fun f rest held other => ?_,
    fun f asks => ⟨(serve f.body s).state, (serve f.body s).status, (serve f.body s).clamped,
      (serve f.body s).results, ?_, port f.body s, fun apart => mode apart f.body s⟩⟩
  · exact takeRequest_of_otherType (congrArg List.head? held) (beq_eq_false_iff_ne.2 other)
  · exact takeRequest_of_asks _ serve s type f asks (beq_self_eq_true type)

/-! ## READ STATUS -/

theorem serveReadStatus_of_empty (s : State) : serveReadStatus [] s = accept s false s.statusResults := rfl

theorem serveReadStatus_of_body {body : List Byte} (given : body ≠ []) (s : State) :
    serveReadStatus body s = refuse s .badLength [] := if_pos fun empty => given (List.length_eq_zero_iff.1 empty)

/-- The results of READ STATUS byte by byte (R164, R170). -/
theorem State.statusResults_eq (s : State) :
    s.statusResults = [if s.port.mode = .normal then 0 else 1] ++ put32 s.time.officeTime
      ++ [BitVec.ofNat 8 s.queue.records.length, if s.queue.service = .closed then 0 else 1,
        if s.qh.framing = none then 0 else 1] := by
  have mode : put8 s.port.mode.code = [if s.port.mode = .normal then 0 else 1] := by cases s.port.mode <;> rfl
  have service : put8 s.queue.service.code = [if s.queue.service = .closed then 0 else 1] := by
    cases s.queue.service <;> rfl
  have aligned : putFlag s.qh.framing.isSome = [if s.qh.framing = none then 0 else 1] := by
    cases s.qh.framing <;> rfl
  rw [State.statusResults, mode, service, aligned, State.now, put8]
  simp only [List.append_assoc, List.cons_append, List.nil_append]

/-- Settles O51, by whether the request carries a body. -/
theorem readStatus : Obligations.ReadStatus := by
  intro s f asks
  rw [exec, execReadStatus, takeRequest_of_asks _ _ s 21 f asks rfl]
  refine ⟨fun empty => ?_, fun given => ?_⟩
  · rw [empty, serveReadStatus_of_empty, State.sendReply_accept, State.statusResults_eq]
  · rw [serveReadStatus_of_body given, State.sendReply_refuse]

end Sys2Proof.Machine

/-!
SUPPORT. Requests that are refused: a reply with a status other than OK, whatever the command, leaves everything but the
transmit state as it was.
-/

namespace Sys2Proof.Machine

open Sys2Proof

/-! ## Answers of the owning blocks -/

/-- An answer is OK, or leaves the state as it was (R162). -/
def Answer.OkOrUnchanged (s : State) (a : Answer) : Prop := a.status = .ok ∨ a.state = s

@[simp] theorem refuse_okOrUnchanged (s : State) (status : Status) (results : List Byte) :
    (refuse s status results).OkOrUnchanged s := .inr rfl

@[simp] theorem accept_okOrUnchanged (s t : State) (clamped : Bool) (results : List Byte) :
    (accept t clamped results).OkOrUnchanged s := .inl rfl

section
variable (body : List Byte) (s : State)

theorem serveConfigureReference_okOrUnchanged : (serveConfigureReference body s).OkOrUnchanged s := by
  unfold serveConfigureReference
  split_ifs <;> simp

theorem serveOneReference_okOrUnchanged {f : RefNo → Answer} (served : ∀ r, (f r).OkOrUnchanged s) :
    (serveOneReference body s f).OkOrUnchanged s := by
  unfold serveOneReference
  split_ifs <;> simp [served]

theorem serveReadReference_okOrUnchanged : (serveReadReference body s).OkOrUnchanged s :=
  serveOneReference_okOrUnchanged body s fun _ => accept_okOrUnchanged ..

theorem serveClearRestore_okOrUnchanged : (serveClearRestore body s).OkOrUnchanged s :=
  serveOneReference_okOrUnchanged body s fun _ => accept_okOrUnchanged ..

theorem serveSetOscillatorTrim_okOrUnchanged : (serveSetOscillatorTrim body s).OkOrUnchanged s := by
  unfold serveSetOscillatorTrim
  split_ifs <;> simp

theorem serveLoadCodePlan_okOrUnchanged : (serveLoadCodePlan body s).OkOrUnchanged s := by
  unfold serveLoadCodePlan
  split_ifs
  · simp
  · simp
  · split <;> simp

theorem serveReadCodePlan_okOrUnchanged : (serveReadCodePlan body s).OkOrUnchanged s := by
  unfold serveReadCodePlan
  split_ifs
  · simp
  · split <;> simp

theorem serveSetGradeOverride_okOrUnchanged : (serveSetGradeOverride body s).OkOrUnchanged s := by
  unfold serveSetGradeOverride
  split_ifs <;> simp

theorem serveConfigureShelf_okOrUnchanged : (serveConfigureShelf body s).OkOrUnchanged s := by
  unfold serveConfigureShelf
  split_ifs <;> simp

theorem serveReadShelf_okOrUnchanged : (serveReadShelf body s).OkOrUnchanged s := by
  unfold serveReadShelf
  split_ifs <;> simp

theorem serveSetSelectionLimits_okOrUnchanged : (serveSetSelectionLimits body s).OkOrUnchanged s := by
  unfold serveSetSelectionLimits
  dsimp only
  split_ifs <;> simp

theorem State.switchTo_okOrUnchanged (h : ShelfNo) (force : Bool) (r : RefNo) :
    (s.switchTo h force r).OkOrUnchanged s := by
  unfold State.switchTo
  split
  · simp
  · split <;> simp

theorem State.switchClear_okOrUnchanged (h : ShelfNo) : (s.switchClear h).OkOrUnchanged s := by
  unfold State.switchClear
  split <;> simp

theorem serveSwitch_okOrUnchanged : (serveSwitch body s).OkOrUnchanged s := by
  unfold serveSwitch
  split_ifs <;> simp [State.switchTo_okOrUnchanged, State.switchClear_okOrUnchanged]

theorem serveLockout_okOrUnchanged : (serveLockout body s).OkOrUnchanged s := by
  unfold serveLockout
  split_ifs
  · simp
  · split
    · simp
    · split <;> simp
  · simp
  · simp

theorem serveHold_okOrUnchanged : (serveHold body s).OkOrUnchanged s := by
  unfold serveHold
  split_ifs
  · simp
  · simp
  · split <;> simp

theorem serveSetHighway_okOrUnchanged : (serveSetHighway body s).OkOrUnchanged s := by
  unfold serveSetHighway
  split_ifs
  · simp
  · split <;> simp

theorem serveReadHighway_okOrUnchanged : (serveReadHighway body s).OkOrUnchanged s := by
  unfold serveReadHighway
  split_ifs <;> simp

theorem serveInjectBlock_okOrUnchanged : (serveInjectBlock body s).OkOrUnchanged s := by
  unfold serveInjectBlock
  split_ifs <;> simp

theorem serveSetReporting_okOrUnchanged : (serveSetReporting body s).OkOrUnchanged s := by
  unfold serveSetReporting
  split_ifs <;> simp

theorem serveCollect_okOrUnchanged : (serveCollect body s).OkOrUnchanged s := by
  unfold serveCollect
  split_ifs <;> simp

theorem serveEndService_okOrUnchanged : (serveEndService body s).OkOrUnchanged s := by
  unfold serveEndService
  split_ifs
  · simp
  · split <;> simp

theorem serveSetMode_okOrUnchanged : (serveSetMode body s).OkOrUnchanged s := by
  unfold serveSetMode
  split_ifs
  · simp
  · split <;> simp

theorem serveReadStatus_okOrUnchanged : (serveReadStatus body s).OkOrUnchanged s := by
  unfold serveReadStatus
  split_ifs <;> simp

theorem serveReset_okOrUnchanged : (serveReset body s).OkOrUnchanged s := by
  unfold serveReset
  split_ifs <;> simp

theorem serveUnknownType_okOrUnchanged : (serveUnknownType body s).OkOrUnchanged s :=
  refuse_okOrUnchanged ..

end

/-! ## The reply that a request leaves -/

/-- The fifth byte of a reply frame is its status (R161). -/
theorem replyTo_status (f : Frame) (a : Answer) : (replyTo f a).status = some (BitVec.ofNat 8 a.status.code) := rfl

/-- A reply that is being sent with a status other than OK is all that differs from the state before (R162). -/
def RefusalOnly (s t : State) : Prop :=
  ∀ r : Sending, t.port.transmit = some r → r.status ≠ some 0 →
    t = { s with port := { s.port with transmit := some r } }

/-- No reply is being sent. -/
theorem refusalOnly_of_idle {s t : State} (idle : t.port.transmit = none) : RefusalOnly s t := fun _ sending =>
  nomatch idle.symm.trans sending

theorem refusalOnly_of_port {s t : State} (idle : s.port.transmit = none) (port : t.port = s.port) : RefusalOnly s t :=
  refusalOnly_of_idle (port ▸ idle)

theorem State.sendReply_refusalOnly {s : State} {a : Answer} (fair : a.OkOrUnchanged s) (f : Frame) :
    RefusalOnly s (State.sendReply f a) := by
  intro r sending refused
  obtain rfl : replyTo f a = r := Option.some.inj sending
  rcases fair with ok | unchanged
  · rw [replyTo_status, ok] at refused
    exact absurd rfl refused
  · rw [State.sendReply, unchanged]

/-! ## What events leave of the Message Port -/

theorem State.bufferFrame_transmit (f : Frame) (s : State) : (s.bufferFrame f).port.transmit = s.port.transmit := by
  unfold State.bufferFrame
  split
  · rfl
  · rw [State.post_port]

theorem State.takeByte_transmit (b : Byte) (s : State) : (s.takeByte b).port.transmit = s.port.transmit := by
  unfold State.takeByte
  split
  · split <;> rfl
  · split <;> rfl
  · rfl
  · rfl
  · unfold State.frameComplete
    split
    · exact State.bufferFrame_transmit _ s.huntAgain
    · rw [State.post_port]
      rfl

theorem State.takeFaultyByte_transmit (s : State) : s.takeFaultyByte.port.transmit = s.port.transmit := by
  unfold State.takeFaultyByte
  split
  · rfl
  · rw [State.post_port]
    rfl

theorem State.endReply_transmit (s : State) : s.endReply.port.transmit = none := by
  unfold State.endReply
  split
  · split <;> rfl
  · assumption

theorem State.secondStep_port (s : State) : s.secondStep.port = s.port := by
  obtain ⟨-, port, -⟩ := s.secondStep_reads
  exact port

theorem State.loseHighway_port (s : State) : s.loseHighway.port = s.port := State.post_port _ _

theorem State.countMiss_port (f : Framing) (s : State) : (s.countMiss f).port = s.port := by
  unfold State.countMiss
  split
  · exact s.loseHighway_port
  · rfl

theorem State.startFrame_port (pulse : Bool) (f : Framing) (s : State) : (s.startFrame pulse f).port = s.port := by
  unfold State.startFrame
  split_ifs
  · rfl
  · rfl
  · exact s.countMiss_port _

theorem State.startQuality_port (j : Fin 16) (s : State) : (s.startQuality j).port = s.port := by
  unfold State.startQuality
  split <;> rfl

/-! ## The commands -/

section
variable {s : State} (idle : s.port.transmit = none)
include idle

theorem event_refusalOnly {f : State → State} (kept : (f s).port.transmit = none) :
    AnswersOnly (RefusalOnly s) (event s f) :=
  event_answersOnly (refusalOnly_of_idle idle) (refusalOnly_of_idle kept)

theorem eventIf_refusalOnly {d : Bool} {f : State → State} (port : (f s).port = s.port) :
    AnswersOnly (RefusalOnly s) (eventIf d s f) :=
  eventIf_answersOnly (refusalOnly_of_idle idle) fun _ => refusalOnly_of_port idle port

/-- An event that hands on the grades it changes. -/
theorem eventIf_regrading_refusalOnly {d : Bool} {f : State → State} (kept : KeepsHardware s (f s)) :
    AnswersOnly (RefusalOnly s) (eventIf d s (State.regrading f)) :=
  eventIf_refusalOnly idle (State.regrading_keepsHardware kept).port

theorem takeRequest_refusalOnly {named : Nat → Bool} {serve : List Byte → State → Answer}
    (fair : ∀ body, (serve body s).OkOrUnchanged s) : AnswersOnly (RefusalOnly s) (takeRequest named serve s) := by
  rcases takeRequest_cases named serve s with e | ⟨f, -, -, e⟩ <;> rw [e]
  · exact answersOnly_next (refusalOnly_of_idle idle)
  · exact answersOnly_next (State.sendReply_refusalOnly (fair f.body) f)

theorem execByteReceived_refusalOnly (value : Byte) (stopHigh : Bool) :
    AnswersOnly (RefusalOnly s) (execByteReceived value stopHigh s) := by
  refine event_refusalOnly idle ?_
  split
  · exact (s.takeByte_transmit value).trans idle
  · exact s.takeFaultyByte_transmit.trans idle

theorem execEdge_refusalOnly (r : Nat) : AnswersOnly (RefusalOnly s) (execEdge r s) := by
  refine onRef_answersOnly fun r => eventIf_refusalOnly idle ?_
  split
  · rfl
  · exact (s.edgeEvent_refMove r).port

theorem execQhFrameStart_refusalOnly (pulse : Bool) : AnswersOnly (RefusalOnly s) (execQhFrameStart pulse s) := by
  refine event_refusalOnly idle ?_
  split
  · split
    · rw [State.startFrame_port, idle]
    · exact idle
  · exact idle

theorem execQhSync_refusalOnly : AnswersOnly (RefusalOnly s) (execQhSync s) := by
  refine event_refusalOnly idle ?_
  split
  · split
    · exact idle
    · rw [State.realign, State.post_port, idle]
  · exact idle

theorem execQhRecovered_refusalOnly : AnswersOnly (RefusalOnly s) (execQhRecovered s) := by
  refine event_refusalOnly idle ?_
  split
  · exact idle
  · rw [State.recoverHighway, State.post_port, idle]

theorem execWordReceived_refusalOnly (slot : Nat) (bits : Byte) :
    AnswersOnly (RefusalOnly s) (execWordReceived slot bits s) := by
  refine onSlot_answersOnly fun n => event_refusalOnly idle ?_
  split
  · split
    · rw [(State.feedWord_keepsFraming n _ _).port, State.passWord_port, idle]
    · exact idle
  · exact idle

theorem execPassVisit_refusalOnly : AnswersOnly (RefusalOnly s) (execPassVisit s) := by
  refine event_refusalOnly idle ?_
  split
  · rw [(State.regrading_keepsHardware (State.visit_shelfMove _ _).keepsHardware).port, idle]
  · exact idle

theorem execCommandBlockStart_refusalOnly (slot : Nat) :
    AnswersOnly (RefusalOnly s) (execCommandBlockStart slot s) := by
  unfold execCommandBlockStart
  split
  · exact eventIf_refusalOnly idle rfl
  · exact answersOnly_fault _ _

theorem execQualityBlockStart_refusalOnly (slot : Nat) :
    AnswersOnly (RefusalOnly s) (execQualityBlockStart slot s) := by
  unfold execQualityBlockStart
  split
  · exact eventIf_refusalOnly idle (s.startQuality_port _)
  · exact answersOnly_fault _ _

/-- Every command that leaves a reply with a status other than OK leaves nothing else (R162). -/
theorem exec_refusalOnly (c : Instr) : AnswersOnly (RefusalOnly s) (exec c s) := by
  cases c with
  | configureReference =>
    exact takeRequest_refusalOnly (named := (· == 1)) idle (serveConfigureReference_okOrUnchanged · s)
  | readReference => exact takeRequest_refusalOnly (named := (· == 2)) idle (serveReadReference_okOrUnchanged · s)
  | clearRestore => exact takeRequest_refusalOnly (named := (· == 3)) idle (serveClearRestore_okOrUnchanged · s)
  | setOscillatorTrim =>
    exact takeRequest_refusalOnly (named := (· == 4)) idle (serveSetOscillatorTrim_okOrUnchanged · s)
  | loadCodePlan => exact takeRequest_refusalOnly (named := (· == 5)) idle (serveLoadCodePlan_okOrUnchanged · s)
  | readCodePlan => exact takeRequest_refusalOnly (named := (· == 6)) idle (serveReadCodePlan_okOrUnchanged · s)
  | setGradeOverride =>
    exact takeRequest_refusalOnly (named := (· == 7)) idle (serveSetGradeOverride_okOrUnchanged · s)
  | configureShelf => exact takeRequest_refusalOnly (named := (· == 8)) idle (serveConfigureShelf_okOrUnchanged · s)
  | readShelf => exact takeRequest_refusalOnly (named := (· == 9)) idle (serveReadShelf_okOrUnchanged · s)
  | setSelectionLimits =>
    exact takeRequest_refusalOnly (named := (· == 10)) idle (serveSetSelectionLimits_okOrUnchanged · s)
  | switch => exact takeRequest_refusalOnly (named := (· == 11)) idle (serveSwitch_okOrUnchanged · s)
  | lockout => exact takeRequest_refusalOnly (named := (· == 12)) idle (serveLockout_okOrUnchanged · s)
  | hold => exact takeRequest_refusalOnly (named := (· == 13)) idle (serveHold_okOrUnchanged · s)
  | setHighway => exact takeRequest_refusalOnly (named := (· == 14)) idle (serveSetHighway_okOrUnchanged · s)
  | readHighway => exact takeRequest_refusalOnly (named := (· == 15)) idle (serveReadHighway_okOrUnchanged · s)
  | injectBlock => exact takeRequest_refusalOnly (named := (· == 16)) idle (serveInjectBlock_okOrUnchanged · s)
  | setReporting => exact takeRequest_refusalOnly (named := (· == 17)) idle (serveSetReporting_okOrUnchanged · s)
  | collect => exact takeRequest_refusalOnly (named := (· == 18)) idle (serveCollect_okOrUnchanged · s)
  | endService => exact takeRequest_refusalOnly (named := (· == 19)) idle (serveEndService_okOrUnchanged · s)
  | setMode => exact takeRequest_refusalOnly (named := (· == 20)) idle (serveSetMode_okOrUnchanged · s)
  | readStatus => exact takeRequest_refusalOnly (named := (· == 21)) idle (serveReadStatus_okOrUnchanged · s)
  | reset => exact takeRequest_refusalOnly (named := (· == 22)) idle (serveReset_okOrUnchanged · s)
  | unknownRequestType =>
    exact takeRequest_refusalOnly (named := fun n => !knownType n) idle (serveUnknownType_okOrUnchanged · s)
  | replyEnd =>
    exact eventIf_answersOnly (refusalOnly_of_idle idle) fun _ => refusalOnly_of_idle s.endReply_transmit
  | resetPin => exact answersOnly_next (refusalOnly_of_idle rfl)
  | byteReceived value stopHigh => exact execByteReceived_refusalOnly idle value stopHigh
  | byteWatchExpiry => exact eventIf_answersOnly (refusalOnly_of_idle idle) fun _ => refusalOnly_of_idle idle
  | tickEvent => exact eventIf_refusalOnly (f := fun s => { s with time := s.time.tick }) idle rfl
  | secondEvent => exact eventIf_refusalOnly idle s.secondStep_port
  | edge r => exact execEdge_refusalOnly idle r
  | signalLost r => exact onRef_answersOnly fun r => eventIf_refusalOnly idle (s.loseSignal_refMove r).port
  | failTimerExpiry r =>
    exact onRef_answersOnly fun r => eventIf_regrading_refusalOnly idle (s.enterFailed_refMove r _).keepsHardware
  | restoreTimerExpiry r =>
    exact onRef_answersOnly fun r => eventIf_refusalOnly idle (s.becomeAvailable_refMove r _).port
  | qhFrameStart pulse => exact execQhFrameStart_refusalOnly idle pulse
  | frameWatchRunOut => exact eventIf_refusalOnly idle (s.countMiss_port _)
  | qhSync => exact execQhSync_refusalOnly idle
  | qhRecovered => exact execQhRecovered_refusalOnly idle
  | wordReceived slot bits => exact execWordReceived_refusalOnly idle slot bits
  | messageAgeExpiry r =>
    exact onRef_answersOnly fun r => eventIf_regrading_refusalOnly idle (s.goStale_keepsHardware r)
  | cardSilenceExpiry h =>
    exact onShelf_answersOnly fun h => eventIf_regrading_refusalOnly idle (s.goSilent_keepsHardware h)
  | acquireExpiry h =>
    exact onShelf_answersOnly fun h => eventIf_regrading_refusalOnly idle (s.timeOut_shelfMove h).keepsHardware
  | holdoverAging h =>
    exact onShelf_answersOnly fun h => eventIf_regrading_refusalOnly idle (s.ageHoldover_shelfMove h).keepsHardware
  | refusalMarkRunOut h r =>
    exact onShelf_answersOnly fun h => onRef_answersOnly fun r => eventIf_refusalOnly
      (f := fun s => (s.disarmMark h r).leavePassPending) idle rfl
  | passStart =>
    exact eventIf_refusalOnly (f := fun s => { s with engine := s.engine.startPass s.visitOrder }) idle rfl
  | passVisit => exact execPassVisit_refusalOnly idle
  | passEnd => exact eventIf_refusalOnly idle s.endPass_keepsHardware.port
  | dhFrameStart => exact eventIf_refusalOnly (f := fun s => { s with dh := s.dh.startFrame }) idle rfl
  | commandBlockStart slot => exact execCommandBlockStart_refusalOnly idle slot
  | qualityBlockStart slot => exact execQualityBlockStart_refusalOnly idle slot
  | resetPinAsserted => exact answersOnly_next (refusalOnly_of_idle rfl)

end

/-- Settles O36, command by command: a request by the answer of its owning block, and any other command leaves no reply
being sent. -/
theorem refusedRequestsChangeNothing : Obligations.RefusedRequestsChangeNothing :=
  fun c _ t r idle taken sending refused => exec_refusalOnly idle c t taken r sending refused

end Sys2Proof.Machine

/-!
SUPPORT. The queue of commands: every well-formed command answers a next state, and none writes the sender's queue.
-/

namespace Sys2Proof.Machine

open Sys2Proof

/-! ## Taking the command in front -/

/-- Settles O1, by the non-empty case of step. -/
theorem stepRunsTheFrontCommand : Obligations.StepRunsTheFrontCommand := fun _ _ _ => rfl

/-! ## Answers that are next states -/

/-- A command taken in s answers a next state, in which the queue of commands is that of s. -/
def TakesPlace (s : State) (x : Result) : Prop := ∃ t : State, x = .next t ∧ t.pending = s.pending

theorem takesPlace_next {s t : State} (kept : t.pending = s.pending) : TakesPlace s (.next t) := ⟨t, rfl, kept⟩

theorem event_takesPlace {s : State} {f : State → State} (kept : (f s).pending = s.pending) :
    TakesPlace s (event s f) := by
  rcases event_cases s f with e | e <;> rw [e]
  · exact takesPlace_next rfl
  · exact takesPlace_next kept

theorem eventIf_takesPlace {d : Bool} {s : State} {f : State → State} (kept : (f s).pending = s.pending) :
    TakesPlace s (eventIf d s f) := by
  rcases eventIf_cases d s f with e | e <;> rw [e]
  · exact takesPlace_next rfl
  · exact takesPlace_next kept

theorem onRef_takesPlace {s : State} {r : Nat} {f : RefNo → Result} (inside : r < 40)
    (taken : ∀ r, TakesPlace s (f r)) : TakesPlace s (onRef r f) :=
  onRef_of_lt r inside f ▸ taken ⟨r, inside⟩

theorem onShelf_takesPlace {s : State} {h : Nat} {f : ShelfNo → Result} (inside : h < 32)
    (taken : ∀ h, TakesPlace s (f h)) : TakesPlace s (onShelf h f) :=
  onShelf_of_lt h inside f ▸ taken ⟨h, inside⟩

theorem onSlot_takesPlace {s : State} {n : Nat} {f : SlotNo → Result} (inside : n < 48)
    (taken : ∀ n, TakesPlace s (f n)) : TakesPlace s (onSlot n f) :=
  onSlot_of_lt n inside f ▸ taken ⟨n, inside⟩

/-- A request takes place, whatever frame is in front: its reply is written over what the owning block leaves. -/
theorem takeRequest_takesPlace {named : Nat → Bool} {serve : List Byte → State → Answer} {s : State}
    (kept : ∀ body, (serve body s).state.pending = s.pending) : TakesPlace s (takeRequest named serve s) := by
  rcases takeRequest_cases named serve s with e | ⟨f, -, -, e⟩ <;> rw [e]
  · exact takesPlace_next rfl
  · exact takesPlace_next (kept f.body)

/-! ## What references and shelves leave of the queue -/

@[simp] theorem State.handOnGrades_pending (before s : State) : (before.handOnGrades s).pending = s.pending :=
  (State.handOnGrades_shelfMove before s).pending

@[simp] theorem State.regrading_pending (f : State → State) (s : State) :
    (State.regrading f s).pending = (f s).pending := State.handOnGrades_pending s (f s)

@[simp] theorem State.setRun_pending (r : RefNo) (f : RefRunning → RefRunning) (s : State) :
    (s.setRun r f).pending = s.pending := rfl

@[simp] theorem State.takeDefect_pending (before : State) (r : RefNo) (s : State) :
    (before.takeDefect r s).pending = s.pending := (State.takeDefect_refMove before r s).pending

@[simp] theorem State.setCardDefect_pending (r : RefNo) (d : Bool) (s : State) :
    (s.setCardDefect r d).pending = s.pending := State.takeDefect_pending s r _

@[simp] theorem State.enterFailed_pending (r : RefNo) (d : FailDetail) (s : State) :
    (s.enterFailed r d).pending = s.pending := (s.enterFailed_refMove r d).pending

@[simp] theorem State.becomeAvailable_pending (r : RefNo) (d : AvailableDetail) (s : State) :
    (s.becomeAvailable r d).pending = s.pending := (s.becomeAvailable_refMove r d).pending

@[simp] theorem State.takeCode_pending (r : RefNo) (c : Code) (s : State) : (s.takeCode r c).pending = s.pending := by
  unfold State.takeCode
  split <;> rfl

@[simp] theorem State.goStale_pending (r : RefNo) (s : State) : (s.goStale r).pending = s.pending := by
  simp [State.goStale]

@[simp] theorem State.deliverStatus_pending (r : RefNo) (c : Code) (d : Bool) (s : State) :
    (s.deliverStatus r c d).pending = s.pending := by
  simp [State.deliverStatus, State.renewAge]

@[simp] theorem State.deliverReport_pending (h : ShelfNo) (rep : CardReport) (s : State) :
    (s.deliverReport h rep).pending = s.pending := by
  have taken := (State.takeReport_shelfMove h rep (s.renewSilence h)).pending
  rw [State.deliverReport, State.regrading_pending, taken, State.renewSilence, State.setShelf_pending]

@[simp] theorem State.goSilent_pending (h : ShelfNo) (s : State) : (s.goSilent h).pending = s.pending := by
  have vacated (t : State) : (t.vacate h (.cardSilent h)).pending = t.pending := (t.vacate_shelfMove h _).pending
  unfold State.goSilent
  dsimp only
  split <;> simp only [vacated, State.setShelf_pending]

@[simp] theorem State.edgeEvent_pending (r : RefNo) (s : State) : (s.edgeEvent r).pending = s.pending :=
  (s.edgeEvent_refMove r).pending

@[simp] theorem State.loseSignal_pending (r : RefNo) (s : State) : (s.loseSignal r).pending = s.pending :=
  (s.loseSignal_refMove r).pending

@[simp] theorem State.endPass_pending (s : State) : s.endPass.pending = s.pending := by
  unfold State.endPass
  split_ifs
  · rfl
  · rfl
  · rw [State.post_pending]

/-! ## What the clocks, the highways and the Message Port leave of the queue -/

@[simp] theorem State.secondStep_pending (s : State) : s.secondStep.pending = s.pending := rfl

@[simp] theorem State.loseHighway_pending (s : State) : s.loseHighway.pending = s.pending := State.post_pending _ _

@[simp] theorem State.countMiss_pending (f : Framing) (s : State) : (s.countMiss f).pending = s.pending := by
  unfold State.countMiss
  split
  · exact s.loseHighway_pending
  · rfl

@[simp] theorem State.startFrame_pending (pulse : Bool) (f : Framing) (s : State) :
    (s.startFrame pulse f).pending = s.pending := by
  unfold State.startFrame
  split_ifs
  · rfl
  · rfl
  · exact s.countMiss_pending _

@[simp] theorem State.realign_pending (s : State) : s.realign.pending = s.pending := State.post_pending _ _

@[simp] theorem State.recoverHighway_pending (s : State) : s.recoverHighway.pending = s.pending :=
  State.post_pending _ _

@[simp] theorem State.countCheckError_pending (n : SlotNo) (s : State) :
    (s.countCheckError n).pending = s.pending := State.post_pending _ _

@[simp] theorem State.countMarkError_pending (n : SlotNo) (s : State) : (s.countMarkError n).pending = s.pending :=
  State.post_pending _ _

@[simp] theorem State.countMisroute_pending (tag : Nat) (s : State) : (s.countMisroute tag).pending = s.pending :=
  State.post_pending _ _

@[simp] theorem State.openBlock_pending (n : SlotNo) (tag : WordValue) (s : State) :
    (s.openBlock n tag).pending = s.pending := by
  unfold State.openBlock
  split_ifs
  · rfl
  · rfl
  · rw [State.countMisroute_pending, State.setAssembler_pending]

@[simp] theorem State.deliver_pending (d : Delivery) (s : State) : (s.deliver d).pending = s.pending := by
  cases d with
  | status r c defect => exact s.deliverStatus_pending r c defect
  | card h rep => exact s.deliverReport_pending h rep

@[simp] theorem State.judgeBlock_pending (n : SlotNo) (words : List WordValue) (s : State) :
    (s.judgeBlock n words).pending = s.pending := by
  unfold State.judgeBlock
  split
  · exact s.countCheckError_pending n
  · split
    · exact s.deliver_pending _
    · exact s.countMisroute_pending _

@[simp] theorem State.feedWord_pending (n : SlotNo) (w : HighwayWord) (s : State) :
    (s.feedWord n w).pending = s.pending := by
  unfold State.feedWord
  split
  · rfl
  · exact s.openBlock_pending n _
  · split
    · rw [State.judgeBlock_pending, State.setAssembler_pending]
    · rfl
  · rw [State.openBlock_pending, State.countMarkError_pending]

@[simp] theorem State.feedWords_pending (n : SlotNo) (words : List Byte) (s : State) :
    (s.feedWords n words).1.pending = s.pending :=
  State.feedWords_induction (P := fun u => u.pending = s.pending) n
    (fun w u kept => (u.feedWord_pending n w).trans kept) words s rfl

@[simp] theorem State.startQuality_pending (j : Fin 16) (s : State) : (s.startQuality j).pending = s.pending := by
  unfold State.startQuality
  split <;> rfl

@[simp] theorem State.bufferFrame_pending (f : Frame) (s : State) : (s.bufferFrame f).pending = s.pending := by
  unfold State.bufferFrame
  split
  · rfl
  · exact s.post_pending _

@[simp] theorem State.frameComplete_pending (a : Assembly) (first second : Byte) (s : State) :
    (s.frameComplete a first second).pending = s.pending := by
  unfold State.frameComplete
  split
  · rw [State.bufferFrame_pending, State.huntAgain_pending]
  · rw [State.post_pending, State.huntAgain_pending]

@[simp] theorem State.takeByte_pending (b : Byte) (s : State) : (s.takeByte b).pending = s.pending := by
  unfold State.takeByte
  split
  · split <;> rfl
  · split <;> rfl
  · rfl
  · rfl
  · exact s.frameComplete_pending _ _ b

@[simp] theorem State.takeFaultyByte_pending (s : State) : s.takeFaultyByte.pending = s.pending := by
  unfold State.takeFaultyByte
  split
  · rfl
  · rw [State.post_pending, State.huntAgain_pending]

@[simp] theorem State.endReply_pending (s : State) : s.endReply.pending = s.pending := by
  unfold State.endReply
  split
  · split <;> rfl
  · rfl

/-! ## What requests leave of the queue -/

theorem State.reconfigure_pending (r : RefNo) (cfg : RefConfig) (s : State) :
    (s.reconfigure r cfg).pending = s.pending := by
  unfold State.reconfigure
  dsimp only
  split
  · rfl
  · rw [State.post_pending]
    rfl

theorem State.clearRestoring_pending (r : RefNo) (s : State) : (s.clearRestoring r).pending = s.pending := by
  unfold State.clearRestoring
  split
  · exact s.becomeAvailable_pending r _
  · rfl

theorem State.setPlan_pending (p : PlanName) (x : CodePlan) (s : State) : (s.setPlan p x).pending = s.pending := by
  cases p <;> rfl

theorem State.reconfigureShelf_pending (h : ShelfNo) (cfg : ShelfConfig) (list : List Candidate) (s : State) :
    (s.reconfigureShelf h cfg list).pending = s.pending :=
  (((State.dropUnoffered_shelfMove h _).trans (State.resettleAging_shelfMove h _ _)).trans
    (State.settleShelf_shelfMove h _)).pending

theorem State.storeMode_pending (m : Mode) (s : State) : (s.storeMode m).pending = s.pending := State.post_pending _ _

theorem State.changeMode_pending (m : Mode) (s : State) : (s.changeMode m).pending = s.pending := by
  unfold State.changeMode
  split
  · rfl
  · split
    · exact s.storeMode_pending _
    · rw [State.regrading_pending, State.clearOverrides_pending, State.storeMode_pending]

section
variable (body : List Byte) (s : State)

theorem serveConfigureReference_pending : (serveConfigureReference body s).state.pending = s.pending := by
  rcases serveConfigureReference_cases body s with e | ⟨r, -, -, -, e⟩ <;> rw [e]
  rw [State.regrading_pending, State.reconfigure_pending]

theorem serveClearRestore_pending : (serveClearRestore body s).state.pending = s.pending := by
  rcases serveClearRestore_cases body s with e | ⟨r, e⟩ <;> rw [e]
  exact s.clearRestoring_pending r

theorem serveSetOscillatorTrim_pending : (serveSetOscillatorTrim body s).state.pending = s.pending := by
  rcases serveSetOscillatorTrim_cases body s with e | ⟨x, e⟩ <;> rw [e]

theorem serveLoadCodePlan_pending : (serveLoadCodePlan body s).state.pending = s.pending := by
  rcases serveLoadCodePlan_cases body s with e | ⟨p, -, e⟩ <;> rw [e]
  rw [State.regrading_pending, State.setPlan_pending]

theorem serveSetGradeOverride_pending : (serveSetGradeOverride body s).state.pending = s.pending := by
  rcases serveSetGradeOverride_cases body s with e | ⟨r, g, -, -, e⟩ <;> rw [e]
  rw [State.regrading_pending, State.setOverride, State.setRun_pending]

theorem serveConfigureShelf_pending : (serveConfigureShelf body s).state.pending = s.pending := by
  rcases serveConfigureShelf_cases body s with e | ⟨h, -, -, -, e⟩ <;> rw [e]
  rw [State.regrading_pending, State.reconfigureShelf_pending]

theorem serveSetSelectionLimits_pending : (serveSetSelectionLimits body s).state.pending = s.pending := by
  rcases serveSetSelectionLimits_cases body s with e | ⟨d, p, c, -, e⟩ <;> rw [e]
  exact s.setLimits_pending _ _ _

theorem serveSwitch_pending : (serveSwitch body s).state.pending = s.pending := by
  rcases serveSwitch_cases body s with e | ⟨h, -, e⟩ | ⟨h, force, r, -, -, e⟩ <;> rw [e]
  · exact (s.setRequest_shelfMove h _).pending
  · exact (s.setRequest_shelfMove h _).pending

theorem serveLockout_pending : (serveLockout body s).state.pending = s.pending := by
  rcases serveLockout_cases body s with e | ⟨h, r, entry, on, -, e⟩ <;> rw [e]
  rw [State.regrading_pending, (s.lockOut_shelfMove h r _ on).pending]

theorem serveHold_pending : (serveHold body s).state.pending = s.pending := by
  rcases serveHold_cases body s with e | ⟨named, on, e⟩ <;> rw [e]
  exact s.setHolds_pending named on

theorem serveSetHighway_pending : (serveSetHighway body s).state.pending = s.pending := by
  rcases serveSetHighway_cases body s with e | ⟨mode, enable, e⟩ <;> rw [e]
  exact s.setHighway_pending mode enable

theorem serveReadHighway_pending : (serveReadHighway body s).state.pending = s.pending := by
  rcases serveReadHighway_cases body s with e | e <;> rw [e]
  exact s.clearCounters_pending

theorem serveInjectBlock_pending : (serveInjectBlock body s).state.pending = s.pending := by
  rcases serveInjectBlock_cases body s with e | ⟨n, words, -, e⟩ <;> rw [e]
  exact s.feedWords_pending n words

theorem serveSetReporting_pending : (serveSetReporting body s).state.pending = s.pending := by
  rcases serveSetReporting_cases body s with e | ⟨threshold, age, e⟩ <;> rw [e]
  exact s.setReporting_pending _ _

theorem serveCollect_pending : (serveCollect body s).state.pending = s.pending := by
  rcases serveCollect_cases body s with e | ⟨most, e⟩ <;> rw [e]

theorem serveEndService_pending : (serveEndService body s).state.pending = s.pending := by
  rcases serveEndService_cases body s with e | ⟨-, e⟩ <;> rw [e]

theorem serveSetMode_pending : (serveSetMode body s).state.pending = s.pending := by
  rcases serveSetMode_cases body s with e | ⟨m, e⟩ <;> rw [e]
  exact s.changeMode_pending m

end

/-- A request that is only read takes place: its owning block leaves the state it found. -/
theorem takeRequest_of_state_takesPlace {named : Nat → Bool} {serve : List Byte → State → Answer} {s : State}
    (same : ∀ body, (serve body s).state = s) : TakesPlace s (takeRequest named serve s) :=
  takeRequest_takesPlace fun body => congrArg State.pending (same body)

/-! ## The commands -/

section
variable {s : State}

theorem execByteReceived_takesPlace (value : Byte) (stopHigh : Bool) :
    TakesPlace s (execByteReceived value stopHigh s) := by
  refine event_takesPlace ?_
  split
  · exact s.takeByte_pending value
  · exact s.takeFaultyByte_pending

theorem execEdge_takesPlace {r : Nat} (inside : r < 40) : TakesPlace s (execEdge r s) := by
  refine onRef_takesPlace inside fun r => eventIf_takesPlace ?_
  split
  · exact s.samplePin_pending r
  · exact s.edgeEvent_pending r

theorem execQhFrameStart_takesPlace (pulse : Bool) : TakesPlace s (execQhFrameStart pulse s) := by
  refine event_takesPlace ?_
  split
  · split
    · exact s.startFrame_pending pulse _
    · rfl
  · rfl

theorem execQhSync_takesPlace : TakesPlace s (execQhSync s) := by
  refine event_takesPlace ?_
  split
  · split
    · rfl
    · exact s.realign_pending
  · rfl

theorem execQhRecovered_takesPlace : TakesPlace s (execQhRecovered s) := by
  refine event_takesPlace ?_
  split
  · rfl
  · exact s.recoverHighway_pending

theorem execWordReceived_takesPlace {slot : Nat} (inside : slot < 48) (bits : Byte) :
    TakesPlace s (execWordReceived slot bits s) := by
  refine onSlot_takesPlace inside fun n => event_takesPlace ?_
  split
  · split
    · rw [State.feedWord_pending, State.passWord_pending]
    · rfl
  · rfl

theorem execPassVisit_takesPlace : TakesPlace s (execPassVisit s) := by
  refine event_takesPlace ?_
  split
  · rw [State.regrading_pending, (State.visit_shelfMove _ _).pending]
  · rfl

theorem execCommandBlockStart_takesPlace {slot : Nat} (inside : slot < 32) :
    TakesPlace s (execCommandBlockStart slot s) := by
  rw [execCommandBlockStart, dif_pos inside]
  exact eventIf_takesPlace rfl

theorem execQualityBlockStart_takesPlace {slot : Nat} (inside : 32 ≤ slot ∧ slot < 48) :
    TakesPlace s (execQualityBlockStart slot s) := by
  rw [execQualityBlockStart, dif_pos inside]
  exact eventIf_takesPlace (s.startQuality_pending _)

theorem execRefusalMarkRunOut_takesPlace {h r : Nat} (shelf : h < 32) (ref : r < 40) :
    TakesPlace s (execRefusalMarkRunOut h r s) :=
  onShelf_takesPlace shelf fun h => onRef_takesPlace ref fun r =>
    eventIf_takesPlace (f := fun s => (s.disarmMark h r).leavePassPending) rfl

/-- Every command whose numbers lie within their tables takes place. -/
theorem exec_takesPlace (c : Instr) (wellFormed : c.wellFormed = true) : TakesPlace s (exec c s) := by
  cases c with
  | configureReference => exact takeRequest_takesPlace (named := (· == 1)) (serveConfigureReference_pending · s)
  | readReference => exact takeRequest_of_state_takesPlace (named := (· == 2)) (serveReadReference_state · s)
  | clearRestore => exact takeRequest_takesPlace (named := (· == 3)) (serveClearRestore_pending · s)
  | setOscillatorTrim => exact takeRequest_takesPlace (named := (· == 4)) (serveSetOscillatorTrim_pending · s)
  | loadCodePlan => exact takeRequest_takesPlace (named := (· == 5)) (serveLoadCodePlan_pending · s)
  | readCodePlan => exact takeRequest_of_state_takesPlace (named := (· == 6)) (serveReadCodePlan_state · s)
  | setGradeOverride => exact takeRequest_takesPlace (named := (· == 7)) (serveSetGradeOverride_pending · s)
  | configureShelf => exact takeRequest_takesPlace (named := (· == 8)) (serveConfigureShelf_pending · s)
  | readShelf => exact takeRequest_of_state_takesPlace (named := (· == 9)) (serveReadShelf_state · s)
  | setSelectionLimits => exact takeRequest_takesPlace (named := (· == 10)) (serveSetSelectionLimits_pending · s)
  | switch => exact takeRequest_takesPlace (named := (· == 11)) (serveSwitch_pending · s)
  | lockout => exact takeRequest_takesPlace (named := (· == 12)) (serveLockout_pending · s)
  | hold => exact takeRequest_takesPlace (named := (· == 13)) (serveHold_pending · s)
  | setHighway => exact takeRequest_takesPlace (named := (· == 14)) (serveSetHighway_pending · s)
  | readHighway => exact takeRequest_takesPlace (named := (· == 15)) (serveReadHighway_pending · s)
  | injectBlock => exact takeRequest_takesPlace (named := (· == 16)) (serveInjectBlock_pending · s)
  | setReporting => exact takeRequest_takesPlace (named := (· == 17)) (serveSetReporting_pending · s)
  | collect => exact takeRequest_takesPlace (named := (· == 18)) (serveCollect_pending · s)
  | endService => exact takeRequest_takesPlace (named := (· == 19)) (serveEndService_pending · s)
  | setMode => exact takeRequest_takesPlace (named := (· == 20)) (serveSetMode_pending · s)
  | readStatus => exact takeRequest_of_state_takesPlace (named := (· == 21)) (serveReadStatus_state · s)
  | reset => exact takeRequest_of_state_takesPlace (named := (· == 22)) (serveReset_state · s)
  | unknownRequestType =>
    exact takeRequest_of_state_takesPlace (named := fun n => !knownType n) (serve := serveUnknownType)
      fun _ => refuse_state s .badType []
  | replyEnd => exact eventIf_takesPlace s.endReply_pending
  | resetPin => exact takesPlace_next (s.resetBy_pending .pin)
  | byteReceived value stopHigh => exact execByteReceived_takesPlace value stopHigh
  | byteWatchExpiry => exact eventIf_takesPlace s.huntAgain_pending
  | tickEvent => exact eventIf_takesPlace (f := fun s => { s with time := s.time.tick }) rfl
  | secondEvent => exact eventIf_takesPlace s.secondStep_pending
  | edge r => exact execEdge_takesPlace (of_decide_eq_true wellFormed)
  | signalLost r =>
    exact onRef_takesPlace (of_decide_eq_true wellFormed) fun r => eventIf_takesPlace (s.loseSignal_pending r)
  | failTimerExpiry r =>
    exact onRef_takesPlace (of_decide_eq_true wellFormed) fun r => eventIf_takesPlace
      ((State.regrading_pending _ s).trans (s.enterFailed_pending r .timer))
  | restoreTimerExpiry r =>
    exact onRef_takesPlace (of_decide_eq_true wellFormed) fun r => eventIf_takesPlace (s.becomeAvailable_pending r _)
  | qhFrameStart pulse => exact execQhFrameStart_takesPlace pulse
  | frameWatchRunOut => exact eventIf_takesPlace (s.countMiss_pending _)
  | qhSync => exact execQhSync_takesPlace
  | qhRecovered => exact execQhRecovered_takesPlace
  | wordReceived slot bits => exact execWordReceived_takesPlace (of_decide_eq_true wellFormed) bits
  | messageAgeExpiry r =>
    exact onRef_takesPlace (of_decide_eq_true wellFormed) fun r => eventIf_takesPlace
      ((State.regrading_pending _ s).trans (s.goStale_pending r))
  | cardSilenceExpiry h =>
    exact onShelf_takesPlace (of_decide_eq_true wellFormed) fun h => eventIf_takesPlace
      ((State.regrading_pending _ s).trans (s.goSilent_pending h))
  | acquireExpiry h =>
    exact onShelf_takesPlace (of_decide_eq_true wellFormed) fun h => eventIf_takesPlace
      ((State.regrading_pending _ s).trans (s.timeOut_shelfMove h).pending)
  | holdoverAging h =>
    exact onShelf_takesPlace (of_decide_eq_true wellFormed) fun h => eventIf_takesPlace
      ((State.regrading_pending _ s).trans (s.ageHoldover_shelfMove h).pending)
  | refusalMarkRunOut h r =>
    obtain ⟨shelf, ref⟩ : h < 32 ∧ r < 40 := by simpa [Instr.wellFormed] using wellFormed
    exact execRefusalMarkRunOut_takesPlace shelf ref
  | passStart => exact eventIf_takesPlace (f := fun s => { s with engine := s.engine.startPass s.visitOrder }) rfl
  | passVisit => exact execPassVisit_takesPlace
  | passEnd => exact eventIf_takesPlace s.endPass_pending
  | dhFrameStart => exact eventIf_takesPlace (f := fun s => { s with dh := s.dh.startFrame }) rfl
  | commandBlockStart slot => exact execCommandBlockStart_takesPlace (of_decide_eq_true wellFormed)
  | qualityBlockStart slot =>
    exact execQualityBlockStart_takesPlace (by simpa [Instr.wellFormed] using wellFormed)
  | resetPinAsserted => exact takesPlace_next (s.resetBy_pending .pin)

end

/-- Settles O3, command by command: one that names a reference, shelf or slot by its number inside the table, and every
other command by what its event leaves of the queue. -/
theorem wellFormedCommandsTakePlace : Obligations.WellFormedCommandsTakePlace :=
  fun c _ wellFormed => exec_takesPlace c wellFormed

end Sys2Proof.Machine
